-- ==== Sys2Proof/Word.lean ====
section
/-! DEFINITION. The byte, the only word of the block (spec/00_scope.md R6: no field is wider than a byte). -/

namespace Sys2Proof

/-- One byte of a frame or of a stream, unsigned, 0..255 (R6, R7). -/
abbrev Byte := BitVec 8

end Sys2Proof
end

