-- ==== Sys2Proof/Syntax.lean ====
section
/-! DEFINITION. The operations of the request port, one constructor per row of spec/opcode_table.json
(spec/45_commands.md R190; the names are those of spec/30_encoding.md R85). -/

namespace Sys2Proof

/-- An operation named on the request port with its arguments. An integer argument is a mathematical integer,
as spec/00_scope.md R10 says: the range check sees -1 and 256 as they are. -/
inductive Instr where
  /-- POWER_ON (R191). -/
  | powerOn
  /-- POWER_OFF (R192). -/
  | powerOff
  /-- GOTO_MEMORY(n) (R193). -/
  | gotoMemory (n : Int)
  /-- SELECT_BANK(n) (R194). -/
  | selectBank (n : Int)
  /-- SET_RECEIVE (R195). -/
  | setReceive
  /-- SET_TRANSMIT (R196). -/
  | setTransmit
  /-- SET_DATA_MODE(on) (R197). -/
  | setDataMode (on : Bool)
  /-- READ_STATE (R198), the one local operation. -/
  | readState
  deriving DecidableEq, Repr

end Sys2Proof
end

