-- ==== Sys2Proof/WellFormed.lean ====
section
/-! DEFINITION. Which operations have arguments in range (spec/45_commands.md R193, R194). An operation out of
range can still be presented on the request port: it is answered INVALID_ARGUMENT. -/

namespace Sys2Proof

/-- The arguments are in the range the operation's rule gives: 1..100 for GOTO_MEMORY, 1..6 for SELECT_BANK. -/
def Instr.wellFormed : Instr → Bool
  | .powerOn => true
  | .powerOff => true
  | .gotoMemory n => decide (1 ≤ n ∧ n ≤ 100)
  | .selectBank n => decide (1 ≤ n ∧ n ≤ 6)
  | .setReceive => true
  | .setTransmit => true
  | .setDataMode _ => true
  | .readState => true

/-- A wire operation reaches the channel; READ_STATE alone does not (R79, R198). -/
def Instr.isWire : Instr → Bool
  | .powerOn => true
  | .powerOff => true
  | .gotoMemory _ => true
  | .selectBank _ => true
  | .setReceive => true
  | .setTransmit => true
  | .setDataMode _ => true
  | .readState => false

end Sys2Proof
end

