-- ==== Sys2Proof/Decode.lean ====
section
/-! DEFINITION. The words of the operations: the frame of each row of spec/opcode_table.json as a byte list, read
(`decode`, total, rejecting by name) and written (`encode`), and the classifier of the bytes of one channel write
(spec/30_encoding.md R79, R80, R84). The frame encoder and decoder of the block itself stand in Machine/Codec.lean. -/

namespace Sys2Proof

/-- PREAMBLE_BYTE (R5). -/
def preambleByte : Byte := 0xFE

/-- TERMINATOR_BYTE (R5). -/
def terminatorByte : Byte := 0xFD

/-- XCVR_ADDR, the transceiver, hardwired (R5, R27, R60). -/
def xcvrAddr : Byte := 0x88

/-- CTRL_ADDR, the controller, hardwired (R5, R27, R60). -/
def ctrlAddr : Byte := 0xE0

/-- Why a byte list is the word of no operation. -/
inductive DecodeError where
  /-- It is shorter than the shortest frame's fields up to the command number. -/
  | tooShort
  /-- Its first two bytes are not the preamble. -/
  | badPreamble
  /-- Its addresses are not those of an outbound frame, 0x88 then 0xE0. -/
  | badAddressing
  /-- Its command number is none of 0x08, 0x18, 0x1A, 0x1C (R82). -/
  | unknownCommand
  /-- It has more or fewer bytes than the rows of its command number. -/
  | badLength
  /-- Its last byte is not the terminator. -/
  | noTerminator
  /-- Its subcommand is none of its command number's. -/
  | unknownSubcommand
  /-- Its payload is none of the constant payloads of its row. -/
  | badPayload
  deriving DecidableEq, Repr

/-- Rows 0x18 (POWER_ON, POWER_OFF), format F_CS. -/
def decodePower : List Byte → Except DecodeError Instr
  | [sub, last] =>
    if last ≠ terminatorByte then .error .noTerminator
    else if sub = 0x01 then .ok .powerOn
    else if sub = 0x00 then .ok .powerOff
    else .error .unknownSubcommand
  | _ => .error .badLength

/-- Rows 0x08: GOTO_MEMORY (F_CD) and SELECT_BANK (F_CSD), told apart by their length (R80). The operand byte is
read as it stands, as the table's mask 00 has it; its range is the range check's matter (R193, R194). -/
def decodeMemory : List Byte → Except DecodeError Instr
  | [n, last] =>
    if last ≠ terminatorByte then .error .noTerminator else .ok (.gotoMemory n.toNat)
  | [sub, n, last] =>
    if last ≠ terminatorByte then .error .noTerminator
    else if sub = 0xA0 then .ok (.selectBank n.toNat)
    else .error .unknownSubcommand
  | _ => .error .badLength

/-- Rows 0x1C (SET_RECEIVE, SET_TRANSMIT), format F_CSD. -/
def decodeTransmit : List Byte → Except DecodeError Instr
  | [sub, v, last] =>
    if last ≠ terminatorByte then .error .noTerminator
    else if sub ≠ 0x00 then .error .unknownSubcommand
    else if v = 0x00 then .ok .setReceive
    else if v = 0x01 then .ok .setTransmit
    else .error .badPayload
  | _ => .error .badLength

/-- Row 0x1A (SET_DATA_MODE), format F_CSD: the payload is 01 02 or 00 00, "no other value occurs" (R78). -/
def decodeDataMode : List Byte → Except DecodeError Instr
  | [sub, v, v', last] =>
    if last ≠ terminatorByte then .error .noTerminator
    else if sub ≠ 0x06 then .error .unknownSubcommand
    else if v = 0x01 ∧ v' = 0x02 then .ok (.setDataMode true)
    else if v = 0x00 ∧ v' = 0x00 then .ok (.setDataMode false)
    else .error .badPayload
  | _ => .error .badLength

/-- The bytes after the command number. -/
def decodeAfterCommand (cmd : Byte) (tail : List Byte) : Except DecodeError Instr :=
  if cmd = 0x18 then decodePower tail
  else if cmd = 0x08 then decodeMemory tail
  else if cmd = 0x1C then decodeTransmit tail
  else if cmd = 0x1A then decodeDataMode tail
  else .error .unknownCommand

/-- The operation whose word (opcode-table row) a byte list is. READ_STATE's row has no bytes: its word is the empty
list (DESIGN CHOICE, log entry 11). POWER_ON's word is its frame alone, as the table has it, without the wake-up bytes
(R84). An operand byte out of range decodes to the operation with that argument, whose meaning answers INVALID_ARGUMENT. -/
def decode : List Byte → Except DecodeError Instr
  | [] => .ok .readState
  | p :: p' :: dest :: src :: cmd :: tail =>
    if p ≠ preambleByte ∨ p' ≠ preambleByte then .error .badPreamble
    else if dest ≠ xcvrAddr ∨ src ≠ ctrlAddr then .error .badAddressing
    else decodeAfterCommand cmd tail
  | _ => .error .tooShort

/-- The bytes of an outbound frame between the addresses and the terminator are `fields`. -/
def outboundFrame (fields : List Byte) : List Byte :=
  [preambleByte, preambleByte, xcvrAddr, ctrlAddr] ++ fields ++ [terminatorByte]

/-- The word of an operation, written from the table of R79; the operand byte is the argument in plain binary (R76). -/
def encode : Instr → List Byte
  | .powerOn => outboundFrame [0x18, 0x01]
  | .powerOff => outboundFrame [0x18, 0x00]
  | .gotoMemory n => outboundFrame [0x08, BitVec.ofInt 8 n]
  | .selectBank n => outboundFrame [0x08, 0xA0, BitVec.ofInt 8 n]
  | .setReceive => outboundFrame [0x1C, 0x00, 0x00]
  | .setTransmit => outboundFrame [0x1C, 0x00, 0x01]
  | .setDataMode true => outboundFrame [0x1A, 0x06, 0x01, 0x02]
  | .setDataMode false => outboundFrame [0x1A, 0x06, 0x00, 0x00]
  | .readState => []

/-- A leading run of FE bytes cut down to the frame's own two (R84). -/
def stripWake : List Byte → List Byte
  | a :: b :: c :: rest =>
    if a = preambleByte ∧ b = preambleByte ∧ c = preambleByte then stripWake (b :: c :: rest) else a :: b :: c :: rest
  | short => short

/-- Which vocabulary operation's frame one channel write carries, wake-up bytes removed (R80): `none` for the bytes of
no operation, an operand out of range among them. -/
def classifyWrite (bytes : List Byte) : Option Instr :=
  match decode (stripWake bytes) with
  | .ok i => if i.isWire ∧ i.wellFormed then some i else none
  | .error _ => none

/-- The bytes of an opcode-table word of `nbits` bits: bit 0 is the least significant bit of the first byte. -/
def bytesOfWord (nbits w : Nat) : List Byte :=
  (List.range ((nbits + 7) / 8)).map fun k => BitVec.ofNat 8 (w / 2 ^ (8 * k))

/-- The operation the decoder reads from an opcode-table word (the host's numbering of bits). -/
def decodeTableWord (nbits w : Nat) : Option Instr :=
  match decode (bytesOfWord nbits w) with
  | .ok i => some i
  | .error _ => none

end Sys2Proof
end

