-- ==== Sys2Proof/Config.lean ====
section
/-! DEFINITION. The parameters of spec/00_scope.md R5 as types, the frame encoder's operand types, the Radio State
record, and the free values: constants without a body, of which nothing can be proved. -/

namespace Sys2Proof

/-- The pre-wire form of a request, `cmd_num`, `subcmd_num`, `data` (R13). -/
structure Command where
  cmdNum : Byte
  subcmdNum : Option Byte
  data : Option (List Byte)
  deriving DecidableEq, Repr

/-- A decoded frame: its command number and its unsplit blob (R126). -/
structure ParsedFrame where
  cmdNum : Byte
  blob : List Byte
  deriving DecidableEq, Repr

/-- BAUD: the five rates of the wake-up table (R199); no other rate makes a block (R200). -/
inductive Baud where
  | b300 | b1200 | b4800 | b9600 | b19200
  deriving DecidableEq, Repr

/-- BUSY_POLICY (R5, R162, R163). -/
inductive BusyPolicy where
  | block | reject
  deriving DecidableEq, Repr

/-- ACK_PREDICATE as plain data (log entry 10): the default, which accepts every decoded frame (R167); the test on the
response's command number that spec/93_implementation_defined.md and vectors M7 and M8 write out; or any other total
function, the free one of `Config.customAck`. -/
inductive AckPredicate where
  | acceptAll
  | cmdNumIs (b : Byte)
  | custom
  deriving DecidableEq, Repr

/-- The configuration registers that are chosen when the block is made (R27); the hardwired ones are constants. -/
structure Configuration where
  baud : Baud
  maxReadAttempts : Nat
  busyPolicy : BusyPolicy
  ackPredicate : AckPredicate
  observerPresent : Bool
  deriving DecidableEq, Repr

/-- The seven mirror fields no operation writes (R29). The spec gives no encoding for them (N19): readings are exact
rationals and `mode` is an uninterpreted byte list (DESIGN CHOICE, log entry 9). -/
structure PassiveFields where
  frequency : Rat
  mode : List Byte
  powerFrac : Rat
  swrMeter : Rat
  signalMeter : Rat
  externalSpeakerActive : Bool
  backlightFrac : Rat
  deriving DecidableEq, Repr, Inhabited

/-- The Radio State mirror: four fields that operations write (R28) and seven that none writes (R29). -/
structure RadioState where
  memoryNum : Int
  memoryBank : Int
  transmitting : Bool
  dataMode : Bool
  passive : PassiveFields
  deriving DecidableEq, Repr

/-- The legal values of R28: memory_num in 1..100, memory_bank in 1..6. -/
def RadioState.legal (r : RadioState) : Bool :=
  decide (1 ≤ r.memoryNum ∧ r.memoryNum ≤ 100 ∧ 1 ≤ r.memoryBank ∧ r.memoryBank ≤ 6)

/-- The channel's answer to one read attempt (R53): a byte, silence, or an I/O error. -/
inductive ReadAnswer where
  | byte (b : Byte)
  | silent
  | ioError
  deriving DecidableEq, Repr, Inhabited

/-- The channel's answer to one write (R52). With an I/O error, the first `sent` bytes of the list (all of them, where
the list is shorter) have entered the TX stream; how many is the channel's draw (D20). -/
inductive WriteAnswer where
  | ok
  | ioError (sent : Nat)
  deriving DecidableEq, Repr, Inhabited

/-- Free value: the channel's answer to a read attempt, the n-th draw (R53; log entry 3). -/
opaque Config.freeRead : Nat → ReadAnswer

/-- Free value: the channel's answer to a write, the n-th draw (R52; log entry 3). -/
opaque Config.freeWrite : Nat → WriteAnswer

/-- Free value: which held request is accepted, the n-th draw (R163; log entry 4). -/
opaque Config.freePick : Nat → Nat

/-- Free value: an ACK_PREDICATE that is neither of the two written out (R167; log entry 10). -/
opaque Config.customAck : Command → ParsedFrame → Bool

/-- Free value: memory_num of RADIO_STATE_INIT less 1, so that it is in range (R34; log entry 7). -/
opaque Config.initMemoryIndex : Fin 100

/-- Free value: memory_bank of RADIO_STATE_INIT less 1, so that it is in range (R34; log entry 7). -/
opaque Config.initBankIndex : Fin 6

/-- Free value: transmitting of RADIO_STATE_INIT (R34; log entry 7). -/
opaque Config.initTransmitting : Bool

/-- Free value: data_mode of RADIO_STATE_INIT (R34; log entry 7). -/
opaque Config.initDataMode : Bool

/-- Free value: the passive fields of RADIO_STATE_INIT (R29, R34; log entry 7). -/
opaque Config.initPassive : PassiveFields

/-- RADIO_STATE_INIT of the session that `State.reset` begins: an unknown input, never zero (R34, R198). -/
def Config.radioStateInit : RadioState where
  memoryNum := Config.initMemoryIndex.val + 1
  memoryBank := Config.initBankIndex.val + 1
  transmitting := Config.initTransmitting
  dataMode := Config.initDataMode
  passive := Config.initPassive

end Sys2Proof
end

