-- ==== Sys2Proof/Machine/State.lean ====
section
/-! DEFINITION. The state of the block and its environment as plain data (spec/10_state.md), the reasons a step can
stop, and the state right after a successful bring-up (R34, R250). -/

namespace Sys2Proof.Machine

/-- SEQ (R21). -/
inductive Seq where
  | closed | idle | sent | awaitingByte | gotTerminator | timedOut
  deriving DecidableEq, Repr

/-- Why COLLECT ended with TIMED_OUT (R140). -/
inductive Reason where
  | silent | exhausted | cancelled
  deriving DecidableEq, Repr

/-- The result codes, in the order of their numbers 0 to 11 (R220). -/
inductive Result where
  | ok | noResponse | okBestEffort | invalidArgument | busy | connectError | ioError | badPreamble | badAddressing
  | truncated | timeout | notAcknowledged
  deriving DecidableEq, Repr

/-- The request record of CUR (R23): `request` is op with its args, `wakeBytes` the bytes written before the frame. -/
structure Request where
  request : Instr
  command : Command
  wakeBytes : List Byte
  deriving DecidableEq, Repr

/-- One answer on the request port: to which request, its code, and READ_STATE's snapshot (R172, R198). -/
structure Answer where
  request : Instr
  code : Result
  snapshot : Option RadioState
  deriving DecidableEq, Repr

/-- One call on the channel with its argument and the channel's answer (R51). `open` is given the configuration that the
bring-up fixed (R250). -/
inductive ChanCall where
  | opened (config : Configuration) (succeeded : Bool)
  | closed
  | write (bytes : List Byte) (answer : WriteAnswer)
  | read (answer : ReadAnswer)
  deriving DecidableEq, Repr

/-- The direction the observer hook is told (R237). -/
inductive Direction where
  | outbound | inbound
  deriving DecidableEq, Repr

/-- One call of the observer hook (R237). -/
structure Observation where
  direction : Direction
  bytes : List Byte
  deriving DecidableEq, Repr

/-- What a session is made with (R250 step 1): the configuration, with BAUD as the number asked for, RADIO_STATE_INIT,
and whether the channel's `open` succeeds. -/
structure SessionSetup where
  baud : Nat
  maxReadAttempts : Nat
  busyPolicy : BusyPolicy
  ackPredicate : AckPredicate
  observerPresent : Bool
  init : RadioState
  openSucceeds : Bool
  deriving DecidableEq, Repr

/-- What the outside does next (R11, R26, R161, R254; log entry 2). -/
inductive Event where
  /-- The caller presents a request on the request port. -/
  | request (i : Instr)
  /-- The caller drives CANCEL to this level. -/
  | cancel (level : Bool)
  /-- The outside does nothing and the block takes a step of its own. -/
  | advance
  /-- The session ends (R254). -/
  | endSession
  /-- A session is brought up (R250). -/
  | bringUp (setup : SessionSetup)
  deriving DecidableEq, Repr

/-- Why a step can stop the machine. Both name states that no run reaches (log entry 17), and both are safe: the
machine stops where the spec has no state at all. -/
inductive Fault where
  /-- Raised by the sequencer: SEQ says a request is in flight and CUR is None, against R23. Safe. -/
  | noRequestInFlight
  /-- Raised by the completion step: SEQ is TIMED_OUT and no reason was kept, against R140. Safe. -/
  | noTimeoutReason
  deriving DecidableEq, Repr

/-- What has no meaning. No operation's meaning ends in one; all but the first belong to the beginning and end of a
session. -/
inductive Refusal where
  /-- Raised by `exec` for an instruction without a meaning. None is left. Safe. -/
  | notModelled (mnemonic : String)
  /-- Raised by ending a session while a request is in flight: "`close` during a request ... refuse: not modelled"
  (spec/93_implementation_defined.md, R254). Safe. -/
  | closeInFlight
  /-- Raised by a request presented, or a session ended, when no session is going on: the spec has no block then, and so
  no request port and no channel to close (R250, R254; log entry 23). Safe. -/
  | noSession
  /-- Raised by a bring-up while a session is going on: `open` is called once a session (R51, R252). Safe. -/
  | sessionNotEnded
  /-- Raised by a bring-up with a BAUD outside the table: "refused when the block is instantiated" (R200). Safe. -/
  | baudNotInTable (baud : Nat)
  /-- Raised by a bring-up with MAX_READ_ATTEMPTS = 0, which is no legal value (R27). Safe. -/
  | attemptBoundBelowOne
  /-- Raised by a bring-up with a memory_num or memory_bank outside its legal values (R28). Safe. -/
  | radioStateOutOfRange
  deriving DecidableEq, Repr

/-- The block's registers, its ports and the record of what passed through them. -/
structure State where
  /-- SEQ (R21). -/
  seq : Seq
  /-- CUR (R23). -/
  cur : Option Request
  /-- RXBUF, in arrival order (R24). -/
  rxbuf : List Byte
  /-- ATTEMPTS (R25). -/
  attempts : Nat
  /-- The reason COLLECT returned with TIMED_OUT, until the completion step (R140; log entry 5). -/
  reason : Option Reason
  /-- A session is going on: it was brought up and has not ended (R250, R254; the model's own, log entry 23). -/
  inSession : Bool
  /-- CANCEL, an input the block never writes (R26). -/
  cancel : Bool
  /-- The configuration registers (R27). -/
  config : Configuration
  /-- The Radio State mirror (R28, R29). -/
  mirror : RadioState
  /-- Requests held under BLOCK, in order of arrival (R163). -/
  held : List Request
  /-- The answers given so far, oldest first. -/
  answers : List Answer
  /-- The calls made on the channel so far, oldest first. -/
  calls : List ChanCall
  /-- What the observer hook was told so far, oldest first. -/
  observed : List Observation
  /-- What the outside does next, soonest first; when it is empty, the outside does nothing more (log entry 2). -/
  schedule : List Event
  /-- The channel's answers to the coming read attempts; where it is empty, free values (log entry 3). -/
  reads : List ReadAnswer
  /-- The channel's answers to the coming writes; where it is empty, free values (log entry 3). -/
  writes : List WriteAnswer
  /-- The coming choices among held requests; where it is empty, free values (log entry 4). -/
  picks : List Nat
  /-- How many free values were drawn (the model's own; log entry 3). -/
  draws : Nat
  deriving DecidableEq, Repr

/-- The outcome of a step or of a request. -/
abbrev Outcome := Host.Outcome State Fault Refusal

/-- The configuration `State.reset` has: the one spec/95_test_vectors.md assumes unless it says otherwise
(DESIGN CHOICE, log entry 6). -/
def defaultConfiguration : Configuration where
  baud := .b9600
  maxReadAttempts := 16
  busyPolicy := .reject
  ackPredicate := .acceptAll
  observerPresent := false

/-- The block just after a bring-up whose `open` succeeded (R34, R250): IDLE, nothing in flight, the mirror at
RADIO_STATE_INIT. -/
def State.reset : State where
  seq := .idle
  cur := none
  rxbuf := []
  attempts := 0
  reason := none
  inSession := true
  cancel := false
  config := defaultConfiguration
  mirror := Config.radioStateInit
  held := []
  answers := []
  calls := [.opened defaultConfiguration true]
  observed := []
  schedule := []
  reads := []
  writes := []
  picks := []
  draws := 0

end Sys2Proof.Machine
end

