-- ==== Sys2Proof/Machine/Codec.lean ====
section
/-! DEFINITION. The frame encoder (spec/41_frame_encoder.md) and the frame decoder and validator
(spec/42_frame_decoder.md): pure functions over bytes. -/

namespace Sys2Proof.Machine

/-- DECODE's three errors (R120). -/
inductive FrameError where
  | badPreamble | badAddressing | truncated
  deriving DecidableEq, Repr

/-- The subcommand and payload bytes of a Command as they go on the wire, `sub ++ pay` of R100. -/
def Command.body (c : Command) : List Byte :=
  (match c.subcmdNum with | some s => [s] | none => []) ++ (match c.data with | some d => d | none => [])

/-- ENCODE (R100): checks nothing and never fails (R101). -/
def encodeFrame (c : Command) (dest src : Byte) : List Byte :=
  [preambleByte, preambleByte] ++ [dest, src, c.cmdNum] ++ Command.body c ++ [terminatorByte]

/-- The bytes before the first terminator, `bytes[0..t)` of R120; `none` when there is no terminator (R121, R122). -/
def beforeTerminator : List Byte → Option (List Byte)
  | [] => none
  | b :: bs => if b = terminatorByte then some [] else (beforeTerminator bs).map (b :: ·)

/-- The tests after the preamble's (R124, R125, R126), on the bytes from index 2 up to the terminator. -/
def decodeAddressed (expDest expSrc : Byte) : List Byte → Except FrameError ParsedFrame
  | dest :: src :: rest =>
    if dest = expDest ∧ src = expSrc then
      match rest with
      | [] => .error .truncated
      | cmd :: blob => .ok { cmdNum := cmd, blob := blob }
    else .error .badAddressing
  | _ => .error .badAddressing

/-- The tests on the bytes before the terminator, preamble first (R123). -/
def decodeBody (expDest expSrc : Byte) : List Byte → Except FrameError ParsedFrame
  | p :: p' :: rest =>
    if p = preambleByte ∧ p' = preambleByte then decodeAddressed expDest expSrc rest else .error .badPreamble
  | _ => .error .badPreamble

/-- DECODE (R120), its tests in the order of R130; bytes after the terminator are ignored (R127). -/
def decodeFrame (bytes : List Byte) (expDest expSrc : Byte) : Except FrameError ParsedFrame :=
  match beforeTerminator bytes with
  | none => .error .truncated
  | some body => decodeBody expDest expSrc body

/-- WF(f), a well-formed frame (R73). -/
def FrameWF (f : List Byte) : Prop :=
  6 ≤ f.length ∧ f[0]? = some preambleByte ∧ f[1]? = some preambleByte ∧ f[f.length - 1]? = some terminatorByte ∧
    ∀ k, 2 ≤ k → k + 2 ≤ f.length → f[k]? ≠ some terminatorByte

end Sys2Proof.Machine
end

