-- ==== Sys2Proof/Machine/Ops.lean ====
section
/-! DEFINITION. The named operations over the state: the request port, the channel's primitives ChanWrite and
ChanReadByte (spec/20_memory.md R52, R53), the observer hook (R237), accepting a request (R164) and `finish`, the one
way a request that reached SEND ends (R172, R231: the block's "trap entry"). -/

namespace Sys2Proof.Machine

/-- The number of a result code (R220). -/
def Result.toNat : Result → Nat
  | .ok => 0
  | .noResponse => 1
  | .okBestEffort => 2
  | .invalidArgument => 3
  | .busy => 4
  | .connectError => 5
  | .ioError => 6
  | .badPreamble => 7
  | .badAddressing => 8
  | .truncated => 9
  | .timeout => 10
  | .notAcknowledged => 11

/-- A request is in flight exactly in these states of SEQ (R22). -/
def Seq.inFlight : Seq → Bool
  | .closed => false
  | .idle => false
  | .sent => true
  | .awaitingByte => true
  | .gotTerminator => true
  | .timedOut => true

/-- The byte list of a request's one ChanWrite: `prefix ++ ENCODE(command, XCVR_ADDR, CTRL_ADDR)` (R164). -/
def Request.out (r : Request) : List Byte :=
  r.wakeBytes ++ encodeFrame r.command xcvrAddr ctrlAddr

/-- An answer on the request port. -/
def State.answer (s : State) (i : Instr) (code : Result) (snapshot : Option RadioState) : State :=
  { s with answers := s.answers ++ [{ request := i, code := code, snapshot := snapshot }] }

/-- Observe(dir, bytes): recorded when OBSERVER is present, nothing otherwise (R9, R237). -/
def State.observe (s : State) (direction : Direction) (bytes : List Byte) : State :=
  { s with observed := bif s.config.observerPresent then s.observed ++ [{ direction := direction, bytes := bytes }]
                       else s.observed }

/-- The accept step of SEND: CUR takes the request and SEQ goes to SENT (R164). -/
def State.accept (s : State) (r : Request) : State :=
  { s with seq := .sent, cur := some r }

/-- A valid wire request held while another is in flight (R163). -/
def State.hold (s : State) (r : Request) : State :=
  { s with held := s.held ++ [r] }

/-- How many free values were drawn once one more answer of a list was asked for: one more where the list is empty. -/
def drawsAfter {α : Type} (coming : List α) (draws : Nat) : Nat :=
  match coming with
  | [] => draws + 1
  | _ :: _ => draws

/-- What the channel will answer to the next write (R52). -/
def State.nextWrite (s : State) : WriteAnswer :=
  match s.writes with
  | a :: _ => a
  | [] => Config.freeWrite s.draws

/-- ChanWrite(bytes): the call is made and its answer is used up (R52). -/
def State.chanWrite (s : State) (bytes : List Byte) : State :=
  { s with writes := s.writes.tail
           draws := drawsAfter s.writes s.draws
           calls := s.calls ++ [.write bytes s.nextWrite] }

/-- What the channel will answer to the next read attempt (R53). -/
def State.nextRead (s : State) : ReadAnswer :=
  match s.reads with
  | a :: _ => a
  | [] => Config.freeRead s.draws

/-- ChanReadByte(): the call is made and its answer is used up (R53). -/
def State.chanRead (s : State) : State :=
  { s with reads := s.reads.tail
           draws := drawsAfter s.reads s.draws
           calls := s.calls ++ [.read s.nextRead] }

/-- Which held request is taken next, as a free number (R163). -/
def State.nextPick (s : State) : Nat :=
  match s.picks with
  | k :: _ => k
  | [] => Config.freePick s.draws

/-- The choice is used up and the request at position `k` is held no more (R163). -/
def State.unhold (s : State) (k : Nat) : State :=
  { s with picks := s.picks.tail
           draws := drawsAfter s.picks s.draws
           held := s.held.eraseIdx k }

/-- `finish CODE` (R172): registers cleared, SEQ to IDLE, the code answered with no snapshot. -/
def State.finish (s : State) (r : Request) (code : Result) : State :=
  { s with rxbuf := [], attempts := 0, reason := none, cur := none, seq := .idle
           answers := s.answers ++ [{ request := r.request, code := code, snapshot := none }] }

/-- The bytes a channel call put into the TX stream (R52). -/
def ChanCall.sentBytes : ChanCall → List Byte
  | .opened _ _ => []
  | .closed => []
  | .write bytes .ok => bytes
  | .write bytes (.ioError sent) => bytes.take sent
  | .read _ => []

/-- The TX stream written so far (R50, R263). -/
def State.txStream (s : State) : List Byte :=
  s.calls.flatMap ChanCall.sentBytes

end Sys2Proof.Machine
end

