-- ==== Sys2Proof/Machine/Operands.lean ====
section
/-! DEFINITION. The operand forms: the wake-up table (spec/45_commands.md R199), the operand bytes
(spec/30_encoding.md R76, R77, R78) and the request record each wire operation hands to the sequencer (R190 to R197). -/

namespace Sys2Proof.Machine

/-- WAKE_COUNT(BAUD) (R199). -/
def wakeCount : Baud → Nat
  | .b300 => 2
  | .b1200 => 3
  | .b4800 => 7
  | .b9600 => 13
  | .b19200 => 25

/-- The rate a number names; `none` outside the table (R200). -/
def baudOfNat (n : Nat) : Option Baud :=
  if n = 300 then some .b300
  else if n = 1200 then some .b1200
  else if n = 4800 then some .b4800
  else if n = 9600 then some .b9600
  else if n = 19200 then some .b19200
  else none

/-- An argument that passed its range check, as one byte in plain unsigned binary (R76, R77; C1). -/
def operandByte (n : Int) : Byte := BitVec.ofInt 8 n

/-- SET_DATA_MODE's payload (R78). -/
def dataModePayload : Bool → List Byte
  | true => [0x01, 0x02]
  | false => [0x00, 0x00]

/-- GOTO_MEMORY's range check (R193), on the integer itself (R10). -/
def memoryInRange (n : Int) : Bool := decide (1 ≤ n ∧ n ≤ 100)

/-- SELECT_BANK's range check (R194), on the integer itself (R10). -/
def bankInRange (n : Int) : Bool := decide (1 ≤ n ∧ n ≤ 6)

/-- POWER_ON's request (R191). -/
def powerOnRequest (b : Baud) : Request where
  request := .powerOn
  command := { cmdNum := 0x18, subcmdNum := some 0x01, data := none }
  wakeBytes := List.replicate (wakeCount b) preambleByte

/-- POWER_OFF's request (R192). -/
def powerOffRequest : Request where
  request := .powerOff
  command := { cmdNum := 0x18, subcmdNum := some 0x00, data := none }
  wakeBytes := []

/-- GOTO_MEMORY's request (R193). -/
def gotoMemoryRequest (n : Int) : Request where
  request := .gotoMemory n
  command := { cmdNum := 0x08, subcmdNum := none, data := some [operandByte n] }
  wakeBytes := []

/-- SELECT_BANK's request (R194). -/
def selectBankRequest (n : Int) : Request where
  request := .selectBank n
  command := { cmdNum := 0x08, subcmdNum := some 0xA0, data := some [operandByte n] }
  wakeBytes := []

/-- SET_RECEIVE's request (R195). -/
def setReceiveRequest : Request where
  request := .setReceive
  command := { cmdNum := 0x1C, subcmdNum := some 0x00, data := some [0x00] }
  wakeBytes := []

/-- SET_TRANSMIT's request (R196). -/
def setTransmitRequest : Request where
  request := .setTransmit
  command := { cmdNum := 0x1C, subcmdNum := some 0x00, data := some [0x01] }
  wakeBytes := []

/-- SET_DATA_MODE's request (R197). -/
def setDataModeRequest (on : Bool) : Request where
  request := .setDataMode on
  command := { cmdNum := 0x1A, subcmdNum := some 0x06, data := some (dataModePayload on) }
  wakeBytes := []

/-- The request record an operation builds (R23); READ_STATE builds none. -/
def requestOf (b : Baud) : Instr → Option Request
  | .powerOn => some (powerOnRequest b)
  | .powerOff => some powerOffRequest
  | .gotoMemory n => some (gotoMemoryRequest n)
  | .selectBank n => some (selectBankRequest n)
  | .setReceive => some setReceiveRequest
  | .setTransmit => some setTransmitRequest
  | .setDataMode on => some (setDataModeRequest on)
  | .readState => none

end Sys2Proof.Machine
end

