-- ==== Sys2Proof/Machine/Flags.lean ====
section
/-! DEFINITION. The writes to the Radio State mirror: each operation's APPLY (spec/45_commands.md). The block has no
condition codes; `transmitting` and `data_mode` are its only flag-like state (spec/10_state.md R31). -/

namespace Sys2Proof.Machine

/-- APPLY of each operation (R191 to R198): the mirror after the operation is confirmed. -/
def applyTo : Instr → RadioState → RadioState
  | .powerOn, r => r
  | .powerOff, r => r
  | .gotoMemory n, r => { r with memoryNum := n }
  | .selectBank n, r => { r with memoryBank := n }
  | .setReceive, r => { r with transmitting := false }
  | .setTransmit, r => { r with transmitting := true }
  | .setDataMode on, r => { r with dataMode := on }
  | .readState, r => r

/-- The mirror written by the completion step: only when the result is OK (R169). -/
def State.applyIfOk (s : State) (r : Request) (code : Result) : State :=
  { s with mirror := if code = .ok then applyTo r.request s.mirror else s.mirror }

end Sys2Proof.Machine
end

