-- ==== Sys2Proof/Machine/Synchronizer.lean ====
section
/-! DEFINITION. The packet synchronizer, COLLECT (spec/43_packet_synchronizer.md): how it starts, and one pass of its
loop body, which is one step of the sequencer in AWAITING_BYTE (R140). -/

namespace Sys2Proof.Machine

/-- COLLECT starts: RXBUF and ATTEMPTS cleared, SEQ to AWAITING_BYTE (R141). -/
def State.beginCollect (s : State) : State :=
  { s with seq := .awaitingByte, rxbuf := [], attempts := 0 }

/-- COLLECT ends with TIMED_OUT and a reason; the observer is told RXBUF (R140, R237). -/
def State.endTimedOut (s : State) (why : Reason) : State :=
  { s.observe .inbound s.rxbuf with seq := .timedOut, reason := some why }

/-- COLLECT ends with GOT_TERMINATOR; the observer is told RXBUF (R143, R237). -/
def State.endTerminated (s : State) : State :=
  { s.observe .inbound s.rxbuf with seq := .gotTerminator }

/-- One read attempt: ATTEMPTS counts it, and the channel is asked (R25, R140). -/
def State.attemptRead (s : State) : State :=
  { s with attempts := s.attempts + 1 }.chanRead

/-- A byte that arrived is appended to RXBUF (R24). -/
def State.pushByte (s : State) (b : Byte) : State :=
  { s with rxbuf := s.rxbuf ++ [b] }

/-- One pass of COLLECT (R140): CANCEL first (R142), then the attempt bound (R146), then one read attempt, whose answer
is a terminator (R143), another byte, silence (R144) or an I/O error (R145). -/
def collectPass (r : Request) (s : State) : State :=
  if s.cancel then s.endTimedOut .cancelled
  else if s.attempts = s.config.maxReadAttempts then s.endTimedOut .exhausted
  else
    match s.nextRead with
    | .ioError => (s.attemptRead.observe .inbound s.rxbuf).finish r .ioError
    | .silent => s.attemptRead.endTimedOut .silent
    | .byte b =>
      if b = terminatorByte then (s.attemptRead.pushByte b).endTerminated else s.attemptRead.pushByte b

end Sys2Proof.Machine
end

