-- ==== Sys2Proof/Machine/Matcher.lean ====
section
/-! DEFINITION. The command-response matcher (spec/44_command_response_matcher.md): what the port does with a request
(R161), the write step and the completion step of SEND (R164), RESULT_OF, and the sequencer's own step by SEQ (R160). -/

namespace Sys2Proof.Machine

/-- ACK_PREDICATE(command, parsed) (R167). -/
def ackAccepts (a : AckPredicate) (c : Command) (p : ParsedFrame) : Bool :=
  match a with
  | .acceptAll => true
  | .cmdNumIs b => p.cmdNum = b
  | .custom => Config.customAck c p

/-- The result of a terminated response (R164, R166). -/
def resultOfFrame (a : AckPredicate) (c : Command) (rx : List Byte) : Result :=
  match decodeFrame rx ctrlAddr xcvrAddr with
  | .error .badPreamble => .badPreamble
  | .error .badAddressing => .badAddressing
  | .error .truncated => .truncated
  | .ok p => if ackAccepts a c p then .ok else .notAcknowledged

/-- The result of a COLLECT that ended with TIMED_OUT (R147). -/
def resultOfTimeout (why : Reason) (rx : List Byte) : Result :=
  match why with
  | .silent => if rx = [] then .noResponse else .truncated
  | .exhausted => .timeout
  | .cancelled => .timeout

/-- POWER_ON's result ignores what COLLECT read (R191); every other operation's is `judged` (R164 RESULT_OF). -/
def resultOf (r : Request) (judged : Result) : Result :=
  match r.request with
  | .powerOn => .okBestEffort
  | .powerOff => judged
  | .gotoMemory _ => judged
  | .selectBank _ => judged
  | .setReceive => judged
  | .setTransmit => judged
  | .setDataMode _ => judged
  | .readState => judged

/-- The completion step (R164, R170): the mirror is written when the code is OK, in the step that ends the request. -/
def complete (r : Request) (code : Result) (s : State) : State :=
  (s.applyIfOk r code).finish r code

/-- The write step (R164, R165): the observer is told the bytes, the channel is called once, and COLLECT starts, or the
request ends with IO_ERROR. -/
def writeStep (r : Request) (s : State) : State :=
  match s.nextWrite with
  | .ok => ((s.observe .outbound r.out).chanWrite r.out).beginCollect
  | .ioError _ => ((s.observe .outbound r.out).chanWrite r.out).finish r .ioError

/-- In IDLE the sequencer accepts one of the held requests, whichever the free choice names (R163); with none held it
has no step and the state stays (R160). -/
def serveHeld (s : State) : State :=
  match s.held[s.nextPick % s.held.length]? with
  | some r => (s.unhold (s.nextPick % s.held.length)).accept r
  | none => s

/-- A sequencer step that works on the request in flight. -/
def withCurrent (s : State) (f : Request → State → State) : Outcome :=
  match s.cur with
  | some r => .next (f r s)
  | none => .fault .noRequestInFlight

/-- The sequencer's own step (R160). In CLOSED, and in IDLE with nothing held, it has none and the state stays. -/
def advance (s : State) : Outcome :=
  match s.seq with
  | .closed => .next s
  | .idle => .next (serveHeld s)
  | .sent => withCurrent s writeStep
  | .awaitingByte => withCurrent s collectPass
  | .gotTerminator =>
    withCurrent s fun r s => complete r (resultOf r (resultOfFrame s.config.ackPredicate r.command s.rxbuf)) s
  | .timedOut =>
    match s.reason with
    | some why => withCurrent s fun r s => complete r (resultOf r (resultOfTimeout why s.rxbuf)) s
    | none => .fault .noTimeoutReason

/-- A valid wire request while another is in flight (R162, R163). -/
def presentBusy (r : Request) (s : State) : State :=
  match s.config.busyPolicy with
  | .reject => s.answer r.request .busy none
  | .block => s.hold r

/-- What the port does with a wire request (R161 steps 1, 3, 4 and 5, in that order): `valid` is its range check. -/
def presentWire (r : Request) (valid : Bool) (s : State) : Outcome :=
  if s.seq = .closed then .next (s.answer r.request .connectError none)
  else if valid = false then .next (s.answer r.request .invalidArgument none)
  else if s.seq.inFlight then .next (presentBusy r s)
  else .next (s.accept r)

end Sys2Proof.Machine
end

