-- ==== Sys2Proof/Machine/MemorySelect.lean ====
section
/-! DEFINITION. GOTO_MEMORY and SELECT_BANK on the request port (spec/45_commands.md R193, R194). -/

namespace Sys2Proof.Machine

/-- GOTO_MEMORY(n) (R193). -/
def execGotoMemory (n : Int) (s : State) : Outcome :=
  presentWire (gotoMemoryRequest n) (memoryInRange n) s

/-- SELECT_BANK(n) (R194). -/
def execSelectBank (n : Int) (s : State) : Outcome :=
  presentWire (selectBankRequest n) (bankInRange n) s

end Sys2Proof.Machine
end

