-- ==== Sys2Proof/Machine/Mode.lean ====
section
/-! DEFINITION. SET_RECEIVE, SET_TRANSMIT and SET_DATA_MODE on the request port (spec/45_commands.md R195 to R197). -/

namespace Sys2Proof.Machine

/-- SET_RECEIVE (R195). -/
def execSetReceive (s : State) : Outcome :=
  presentWire setReceiveRequest true s

/-- SET_TRANSMIT (R196). -/
def execSetTransmit (s : State) : Outcome :=
  presentWire setTransmitRequest true s

/-- SET_DATA_MODE(on) (R197): both Boolean values are valid. -/
def execSetDataMode (on : Bool) (s : State) : Outcome :=
  presentWire (setDataModeRequest on) true s

end Sys2Proof.Machine
end

