-- ==== Sys2Proof/Machine/Power.lean ====
section
/-! DEFINITION. POWER_ON and POWER_OFF on the request port (spec/45_commands.md R191, R192). -/

namespace Sys2Proof.Machine

/-- POWER_ON (R191): no argument to check; the wake-up bytes are those of the block's BAUD. -/
def execPowerOn (s : State) : Outcome :=
  presentWire (powerOnRequest s.config.baud) true s

/-- POWER_OFF (R192). -/
def execPowerOff (s : State) : Outcome :=
  presentWire powerOffRequest true s

end Sys2Proof.Machine
end

