-- ==== Sys2Proof/Machine/Snapshot.lean ====
section
/-! DEFINITION. READ_STATE on the request port (spec/45_commands.md R198). -/

namespace Sys2Proof.Machine

/-- READ_STATE (R198): CONNECT_ERROR in CLOSED, else OK with a copy of the mirror, in flight or not. -/
def execReadState (s : State) : Outcome :=
  if s.seq = .closed then .next (s.answer .readState .connectError none)
  else .next (s.answer .readState .ok (some s.mirror))

end Sys2Proof.Machine
end

