-- ==== Sys2Proof/Machine/Dispatch.lean ====
section
/-! DEFINITION. What the request port does with each operation: one arm per row of spec/opcode_table.json. -/

namespace Sys2Proof.Machine

def exec (i : Instr) (s : State) : Host.Outcome State Fault Refusal :=
  match i with
  | .powerOn => Sys2Proof.Machine.execPowerOn s
  | .powerOff => Sys2Proof.Machine.execPowerOff s
  | .gotoMemory n => Sys2Proof.Machine.execGotoMemory n s
  | .selectBank n => Sys2Proof.Machine.execSelectBank n s
  | .setReceive => Sys2Proof.Machine.execSetReceive s
  | .setTransmit => Sys2Proof.Machine.execSetTransmit s
  | .setDataMode on => Sys2Proof.Machine.execSetDataMode on s
  | .readState => Sys2Proof.Machine.execReadState s

end Sys2Proof.Machine
end

