-- ==== Sys2Proof/Machine/Session.lean ====
section
/-! DEFINITION. Bring-up and session end (spec/70_reset_and_hazards.md R250, R252, R254). -/

namespace Sys2Proof.Machine

/-- The configuration registers of a setup, at the rate `b` its BAUD names (R27). -/
def SessionSetup.configuration (setup : SessionSetup) (b : Baud) : Configuration where
  baud := b
  maxReadAttempts := setup.maxReadAttempts
  busyPolicy := setup.busyPolicy
  ackPredicate := setup.ackPredicate
  observerPresent := setup.observerPresent

/-- The session ends with one `close` (R51, R254), whether `open` had succeeded or not (D35: "from IDLE or CLOSED").
Requests still held are dropped with it, never answered (log entry 15). -/
def State.closeChannel (s : State) : State :=
  { s with inSession := false, held := [], calls := s.calls ++ [.closed] }

/-- The registers after a bring-up (R250): fresh, from the setup; SEQ is IDLE or, after a failed `open`, CLOSED. What
lies outside the block stays: CANCEL's level, the channel's and the caller's own lists, and the records. -/
def State.openChannel (s : State) (setup : SessionSetup) (b : Baud) : State :=
  { s with seq := if setup.openSucceeds then .idle else .closed
           cur := none, rxbuf := [], attempts := 0, reason := none, inSession := true
           config := setup.configuration b
           mirror := setup.init
           calls := s.calls ++ [.opened (setup.configuration b) setup.openSucceeds] }

/-- The end of the session (R254). During a request it is refused; and a session ends once (R51). -/
def endSession (s : State) : Outcome :=
  match s.seq.inFlight, s.inSession with
  | true, _ => .refused .closeInFlight
  | false, false => .refused .noSession
  | false, true => .next s.closeChannel

/-- A bring-up (R250). A configuration outside the legal values of R27 and R28 is refused (R200), as is a second bring-up
in one session (R51, R252). -/
def bringUp (setup : SessionSetup) (s : State) : Outcome :=
  match s.inSession with
  | true => .refused .sessionNotEnded
  | false =>
    match baudOfNat setup.baud with
    | none => .refused (.baudNotInTable setup.baud)
    | some b =>
      if setup.maxReadAttempts = 0 then .refused .attemptBoundBelowOne
      else if setup.init.legal = false then .refused .radioStateOutOfRange
      else .next (s.openChannel setup b)

end Sys2Proof.Machine
end

