-- ==== Sys2Proof/Machine/Caller.lean ====
section
/-! DEFINITION. What the outside does to the block: presenting a request (R161), driving CANCEL (R26), leaving the block
to itself, ending the session and bringing one up (R250, R254). -/

namespace Sys2Proof.Machine

/-- The caller drives CANCEL; nothing else changes (R26). -/
def State.setCancel (s : State) (level : Bool) : State :=
  { s with cancel := level }

/-- The event is taken off the schedule. -/
def State.takeEvent (s : State) (rest : List Event) : State :=
  { s with schedule := rest }

/-- A request reaches the request port while a session is going on; outside a session there is no port (log entry 23). -/
def present (i : Instr) (s : State) : Outcome :=
  match s.inSession with
  | true => exec i s
  | false => .refused .noSession

/-- What an event does, once it is taken off the schedule. -/
def handle (e : Event) (s : State) : Outcome :=
  match e with
  | .request i => present i s
  | .cancel level => .next (s.setCancel level)
  | .advance => advance s
  | .endSession => endSession s
  | .bringUp setup => bringUp setup s

/-- A request is put on the port ahead of everything the outside does later (R161). -/
def State.presentNext (s : State) (i : Instr) : State :=
  { s with schedule := .request i :: s.schedule }

end Sys2Proof.Machine
end

