-- ==== Sys2Proof/Machine/Step.lean ====
section
/-! DEFINITION. One step of the whole: the outside's next event where one is waiting, the block's own step otherwise
(spec/00_scope.md R11; log entry 2). -/

namespace Sys2Proof.Machine

/-- One step. -/
def step (s : State) : Host.Outcome State Fault Refusal :=
  match s.schedule with
  | [] => advance s
  | e :: rest => handle e (s.takeEvent rest)

/-- The operation whose opcode-table word is `w` presented next on the request port. A word of no operation cannot be
presented (R190: "not representable on the request port"), and the state stays (log entry 12). -/
def State.withFetchWord (s : State) (nbits w : Nat) : State :=
  match decodeTableWord nbits w with
  | some i => s.presentNext i
  | none => s

end Sys2Proof.Machine
end

