-- ==== Sys2Proof/Safety.lean ====
section
/-! DEFINITION. The terms the statements use: the register invariant, the order of the channel calls, what the port does
with a request, how a request ends, and what the observer cannot change. -/

namespace Sys2Proof.Machine

/-- A request record of a wire operation with arguments in range, as that operation builds it (R23). -/
def RequestWF (c : Configuration) (r : Request) : Prop :=
  r.request.isWire = true ∧ r.request.wellFormed = true ∧ requestOf c.baud r.request = some r

/-- What holds of the registers between any two steps (R20 to R28, R141 to R146, R163, R172). -/
structure RegInv (s : State) : Prop where
  /-- R22, R23: CUR is None exactly when no request is in flight. -/
  cur_none_iff : s.cur = none ↔ s.seq.inFlight = false
  /-- R23: CUR holds a validated request with the command and prefix its operation builds. -/
  cur_wf : ∀ r, s.cur = some r → RequestWF s.config r
  /-- R161, R163: a held request passed its checks. -/
  held_wf : ∀ r ∈ s.held, RequestWF s.config r
  /-- R162, R163, R252: requests are held under BLOCK only, and never in CLOSED. -/
  held_block : s.held ≠ [] → s.config.busyPolicy = .block ∧ s.seq ≠ .closed
  /-- R27: MAX_READ_ATTEMPTS is at least 1. -/
  bound_pos : 1 ≤ s.config.maxReadAttempts
  /-- R25: ATTEMPTS never exceeds MAX_READ_ATTEMPTS. -/
  attempts_le : s.attempts ≤ s.config.maxReadAttempts
  /-- R141, R172: outside COLLECT and its completion, RXBUF is empty and ATTEMPTS is 0. -/
  quiet : s.seq = .closed ∨ s.seq = .idle ∨ s.seq = .sent → s.rxbuf = [] ∧ s.attempts = 0
  /-- R140: every attempt so far returned a byte other than the terminator. -/
  awaiting : s.seq = .awaitingByte → s.rxbuf.length = s.attempts ∧ terminatorByte ∉ s.rxbuf
  /-- R143: RXBUF holds exactly one terminator, as its last byte. -/
  terminated : s.seq = .gotTerminator →
    s.rxbuf.length = s.attempts ∧ ∃ xs, s.rxbuf = xs ++ [terminatorByte] ∧ terminatorByte ∉ xs
  /-- R142, R144, R146: no terminator, and a reason that fits what was read. -/
  timed_out : s.seq = .timedOut → terminatorByte ∉ s.rxbuf ∧
    ((s.reason = some .silent ∧ s.rxbuf.length + 1 = s.attempts) ∨
     (s.reason = some .exhausted ∧ s.rxbuf.length = s.config.maxReadAttempts ∧ s.attempts = s.config.maxReadAttempts) ∨
     (s.reason = some .cancelled ∧ s.rxbuf.length = s.attempts))
  /-- R140: a reason is kept in TIMED_OUT alone. -/
  reason_only : s.seq ≠ .timedOut → s.reason = none
  /-- R28: memory_num and memory_bank hold legal values. -/
  mirror_legal : s.mirror.legal = true
  /-- R254: a session ends with no request in flight, and none is held after it. -/
  session_over : s.inSession = false → s.seq.inFlight = false ∧ s.held = []

/-- Where the channel stands in the order of R51 and R61: no session; a session whose `open` failed; a session in which no
read attempt may be made; or one in which a read attempt may be made, and how many the request made. -/
inductive ChanPhase where
  | ended
  | failed
  | noReads
  | reads (n : Nat)
  deriving DecidableEq, Repr

/-- One channel call in the order of R51 and R61. `open` begins a session and `close` ends it, once each; a write needs a
session whose `open` succeeded; a read attempt needs a write that returned Ok with no ending answer since (R61 item 2, R143
to R145). -/
def ChanPhase.next : ChanPhase → ChanCall → Option ChanPhase
  | .ended, .opened _ true => some .noReads
  | .ended, .opened _ false => some .failed
  | .ended, .closed => none
  | .ended, .write _ _ => none
  | .ended, .read _ => none
  | .failed, .opened _ _ => none
  | .failed, .closed => some .ended
  | .failed, .write _ _ => none
  | .failed, .read _ => none
  | .noReads, .opened _ _ => none
  | .noReads, .closed => some .ended
  | .noReads, .write _ .ok => some (.reads 0)
  | .noReads, .write _ (.ioError _) => some .noReads
  | .noReads, .read _ => none
  | .reads _, .opened _ _ => none
  | .reads _, .closed => some .ended
  | .reads _, .write _ .ok => some (.reads 0)
  | .reads _, .write _ (.ioError _) => some .noReads
  | .reads n, .read (.byte b) => some (if b = terminatorByte then .noReads else .reads (n + 1))
  | .reads _, .read .silent => some .noReads
  | .reads _, .read .ioError => some .noReads

/-- The phase after a list of calls, none where the list breaks the order of R51 and R61. -/
def phaseAfter (calls : List ChanCall) : Option ChanPhase :=
  calls.foldl (fun p c => p.bind fun q => q.next c) (some .ended)

/-- The registers agree with the channel's phase: with no session, nothing is in flight or held; after a failed `open`, SEQ
is CLOSED (R252); and while the block waits for a byte, ATTEMPTS counts the request's read attempts (R25). -/
def State.fitsPhase (s : State) : ChanPhase → Prop
  | .ended => s.inSession = false ∧ s.seq.inFlight = false ∧ s.held = []
  | .failed => s.inSession = true ∧ s.seq = .closed
  | .noReads => s.inSession = true ∧ s.seq ≠ .closed ∧ s.seq ≠ .awaitingByte
  | .reads n => s.inSession = true ∧ s.seq ≠ .closed ∧ (s.seq = .awaitingByte → n = s.attempts)

/-- The channel calls so far follow the order of R51 and R61, and the registers agree with where they end. -/
def CallOrder (s : State) : Prop :=
  ∃ p, phaseAfter s.calls = some p ∧ s.fitsPhase p

/-- Answers given, requests held and the request in flight: every request presented is counted here once (R220, R263). -/
def State.accounted (s : State) : Nat :=
  s.answers.length + s.held.length + s.seq.inFlight.toNat

/-- The event that comes next, if any, neither ends a session nor brings one up (R250, R254). -/
def State.sameSession (s : State) : Prop :=
  (∀ rest, s.schedule ≠ .endSession :: rest) ∧ ∀ setup rest, s.schedule ≠ .bringUp setup :: rest

/-- The state with a code answered on the request port and nothing else changed (R231). -/
def State.answeredOnly (s : State) (i : Instr) (code : Result) (snapshot : Option RadioState) : State :=
  { s with answers := s.answers ++ [⟨i, code, snapshot⟩] }

/-- The state a request that reached SEND ends in: registers cleared, the code answered (R172), the mirror `m`. -/
def State.endedWith (s : State) (r : Request) (code : Result) (m : RadioState) : State :=
  { s with rxbuf := [], attempts := 0, reason := none, cur := none, seq := .idle, mirror := m
           answers := s.answers ++ [⟨r.request, code, none⟩] }

/-- What the port does with operation `i`, of valid arguments, whose request record under rate `b` is `r b`: in CLOSED
CONNECT_ERROR; in flight BUSY under REJECT, held under BLOCK; in IDLE accepted, SEQ SENT and CUR the record (R161). -/
def PortServes (i : Instr) (r : Baud → Request) : Prop :=
  ∀ s : State,
    (s.seq = .closed → exec i s = .next (s.answeredOnly i .connectError none)) ∧
    (s.seq.inFlight = true → s.config.busyPolicy = .reject → exec i s = .next (s.answeredOnly i .busy none)) ∧
    (s.seq.inFlight = true → s.config.busyPolicy = .block →
      exec i s = .next { s with held := s.held ++ [r s.config.baud] }) ∧
    (s.seq = .idle → exec i s = .next { s with seq := .sent, cur := some (r s.config.baud) })

/-- What one read attempt does to the state whatever it answers: ATTEMPTS counts it and the channel's next answer is used
up and recorded, from the list of answers to come or, where that is empty, as a draw (R25, R53). -/
def State.afterAttempt (s : State) : State :=
  { s with attempts := s.attempts + 1
           reads := s.reads.tail
           draws := drawsAfter s.reads s.draws
           calls := s.calls ++ [.read s.nextRead] }

/-- The write step of request `r`: one call on the channel, with these bytes, wake-up bytes and frame in one; when it
returns Ok, the block waits for the response, the mirror unchanged (R52, R164). -/
def WritesOnce (r : Request) (bytes : List Byte) : Prop :=
  ∀ s : State, s.schedule = [] → s.seq = .sent → s.cur = some r →
    ∃ t, step s = .next t ∧ t.calls = s.calls ++ [.write bytes s.nextWrite] ∧ t.mirror = s.mirror ∧
      (s.nextWrite = .ok → t.seq = .awaitingByte ∧ t.cur = some r)

/-- A transport failure ends request `r` with IO_ERROR and no other effect on the mirror: a failed write, or a read
attempt that returns IOError (R145, R165, R223). -/
def TransportFailureEnds (r : Request) : Prop :=
  ∀ s : State, s.schedule = [] → s.cur = some r →
    (s.seq = .sent ∧ (∃ k, s.nextWrite = .ioError k)) ∨
      (s.seq = .awaitingByte ∧ s.cancel = false ∧ s.attempts ≠ s.config.maxReadAttempts ∧ s.nextRead = .ioError) →
    ∃ t, step s = .next t ∧ t.seq = .idle ∧ t.cur = none ∧ t.rxbuf = [] ∧ t.attempts = 0 ∧ t.mirror = s.mirror ∧
      t.answers = s.answers ++ [⟨r.request, .ioError, none⟩]

/-- How a request `r` other than POWER_ON ends once its write succeeded: on a terminated response, DECODE's error, or OK
with the mirror `f` of what it was when ACK_PREDICATE accepts the frame, or NOT_ACKNOWLEDGED; on TIMED_OUT, NO_RESPONSE,
TRUNCATED or TIMEOUT; on a transport failure, IO_ERROR; the mirror is written on OK alone (R147, R164, R166, R169). -/
def JudgedEnds (r : Request) (f : RadioState → RadioState) : Prop :=
  TransportFailureEnds r ∧
  ∀ s : State, s.schedule = [] → s.cur = some r →
    (s.seq = .gotTerminator → step s = .next (
      match decodeFrame s.rxbuf 0xE0 0x88 with
      | .error .badPreamble => s.endedWith r .badPreamble s.mirror
      | .error .badAddressing => s.endedWith r .badAddressing s.mirror
      | .error .truncated => s.endedWith r .truncated s.mirror
      | .ok p =>
        if ackAccepts s.config.ackPredicate r.command p = true then s.endedWith r .ok (f s.mirror)
        else s.endedWith r .notAcknowledged s.mirror)) ∧
    (s.seq = .timedOut → ∀ why, s.reason = some why → step s = .next (
      match why with
      | .silent => if s.rxbuf = [] then s.endedWith r .noResponse s.mirror else s.endedWith r .truncated s.mirror
      | .exhausted => s.endedWith r .timeout s.mirror
      | .cancelled => s.endedWith r .timeout s.mirror))

/-- Observe(dir, bytes) as a list (R237). -/
def observation (s : State) (d : Direction) (bytes : List Byte) : List Observation :=
  bif s.config.observerPresent then [⟨d, bytes⟩] else []

/-- `k` steps one after another, stopping at the first fault or refusal: `Host.Core.run` of the machine. -/
def runSteps : Nat → State → Outcome
  | 0, s => .next s
  | k + 1, s =>
    match step s with
    | .next t => runSteps k t
    | .fault f => .fault f
    | .refused r => .refused r

/-- A response frame from the transceiver (R86). -/
def responseFrame (cmd : Byte) (blob : List Byte) : List Byte :=
  [0xFE, 0xFE, 0xE0, 0x88, cmd] ++ blob ++ [0xFD]

/-- The state without an observer and without what it was told (R237). -/
def State.unobserved (s : State) : State :=
  { s with config := { s.config with observerPresent := false }, observed := [] }

end Sys2Proof.Machine
end

