-- ==== Sys2Proof/Certificates/Slice0/Obligations.lean ====
section
/-! DEFINITION. The statements for the provers. Each docstring names the rule of spec/ it formalises. -/

open Sys2Proof Sys2Proof.Machine

/-! ### Words, frames, encoder and decoder -/

/-- R79, R80: the word of every operation with arguments in range decodes to that operation, every operand kept. The
empty word of READ_STATE is the model's convention (log entry 11). -/
def Obligations.DecodeEncodeRoundTrip : Prop :=
  ∀ i : Instr, i.wellFormed = true → decode (encode i) = .ok i

/-- R79, R80: no other byte list decodes to an operation: what decodes is the word the encoder writes (log entry 11). -/
def Obligations.DecodedWordIsEncoded : Prop :=
  ∀ (bytes : List Byte) (i : Instr), decode bytes = .ok i → encode i = bytes

/-- R79, R80: words written out from the table, bit by bit, decode to the operations they stand for. -/
def Obligations.TableWordsDecode : Prop :=
  decodeTableWord 56 0xFD0118E088FEFE = some .powerOn ∧
  decodeTableWord 56 0xFD0018E088FEFE = some .powerOff ∧
  decodeTableWord 56 0xFD6408E088FEFE = some (.gotoMemory 100) ∧
  decodeTableWord 64 0xFD03A008E088FEFE = some (.selectBank 3) ∧
  decodeTableWord 64 0xFD01001CE088FEFE = some .setTransmit ∧
  decodeTableWord 72 0xFD0201061AE088FEFE = some (.setDataMode true)

/-- R79: the command fields each operation builds and the bytes its one ChanWrite carries. -/
def Obligations.CommandMapOfTheVocabulary : Prop :=
  ∀ (b : Baud) (n : Int),
    (powerOnRequest b).command = ⟨0x18, some 0x01, none⟩ ∧
    (powerOnRequest b).out = List.replicate (wakeCount b) 0xFE ++ [0xFE, 0xFE, 0x88, 0xE0, 0x18, 0x01, 0xFD] ∧
    powerOffRequest.command = ⟨0x18, some 0x00, none⟩ ∧
    powerOffRequest.out = [0xFE, 0xFE, 0x88, 0xE0, 0x18, 0x00, 0xFD] ∧
    (gotoMemoryRequest n).command = ⟨0x08, none, some [BitVec.ofInt 8 n]⟩ ∧
    (gotoMemoryRequest n).out = [0xFE, 0xFE, 0x88, 0xE0, 0x08, BitVec.ofInt 8 n, 0xFD] ∧
    (selectBankRequest n).command = ⟨0x08, some 0xA0, some [BitVec.ofInt 8 n]⟩ ∧
    (selectBankRequest n).out = [0xFE, 0xFE, 0x88, 0xE0, 0x08, 0xA0, BitVec.ofInt 8 n, 0xFD] ∧
    setReceiveRequest.command = ⟨0x1C, some 0x00, some [0x00]⟩ ∧
    setReceiveRequest.out = [0xFE, 0xFE, 0x88, 0xE0, 0x1C, 0x00, 0x00, 0xFD] ∧
    setTransmitRequest.command = ⟨0x1C, some 0x00, some [0x01]⟩ ∧
    setTransmitRequest.out = [0xFE, 0xFE, 0x88, 0xE0, 0x1C, 0x00, 0x01, 0xFD] ∧
    (setDataModeRequest true).command = ⟨0x1A, some 0x06, some [0x01, 0x02]⟩ ∧
    (setDataModeRequest true).out = [0xFE, 0xFE, 0x88, 0xE0, 0x1A, 0x06, 0x01, 0x02, 0xFD] ∧
    (setDataModeRequest false).command = ⟨0x1A, some 0x06, some [0x00, 0x00]⟩ ∧
    (setDataModeRequest false).out = [0xFE, 0xFE, 0x88, 0xE0, 0x1A, 0x06, 0x00, 0x00, 0xFD] ∧
    requestOf b .readState = none

/-- R199: the wake-up count of each rate, and the length of what POWER_ON writes at it. -/
def Obligations.WakeCountTable : Prop :=
  (wakeCount .b300 = 2 ∧ (powerOnRequest .b300).out.length = 9) ∧
  (wakeCount .b1200 = 3 ∧ (powerOnRequest .b1200).out.length = 10) ∧
  (wakeCount .b4800 = 7 ∧ (powerOnRequest .b4800).out.length = 14) ∧
  (wakeCount .b9600 = 13 ∧ (powerOnRequest .b9600).out.length = 20) ∧
  (wakeCount .b19200 = 25 ∧ (powerOnRequest .b19200).out.length = 32) ∧
  (∀ b, (powerOnRequest b).out.length = wakeCount b + 7)

/-- R80: with a leading run of wake-up bytes removed, a byte list is the frame of an operation exactly when it is that
operation's row, and of none otherwise. -/
def Obligations.WriteBytesNameTheOperation : Prop :=
  ∀ (bytes : List Byte) (i : Instr), classifyWrite bytes = some i ↔
    (stripWake bytes = [0xFE, 0xFE, 0x88, 0xE0, 0x18, 0x01, 0xFD] ∧ i = .powerOn) ∨
    (stripWake bytes = [0xFE, 0xFE, 0x88, 0xE0, 0x18, 0x00, 0xFD] ∧ i = .powerOff) ∨
    (∃ n : Byte, 1 ≤ n.toNat ∧ n.toNat ≤ 0x64 ∧ stripWake bytes = [0xFE, 0xFE, 0x88, 0xE0, 0x08, n, 0xFD] ∧
      i = .gotoMemory n.toNat) ∨
    (∃ n : Byte, 1 ≤ n.toNat ∧ n.toNat ≤ 6 ∧ stripWake bytes = [0xFE, 0xFE, 0x88, 0xE0, 0x08, 0xA0, n, 0xFD] ∧
      i = .selectBank n.toNat) ∨
    (stripWake bytes = [0xFE, 0xFE, 0x88, 0xE0, 0x1C, 0x00, 0x00, 0xFD] ∧ i = .setReceive) ∨
    (stripWake bytes = [0xFE, 0xFE, 0x88, 0xE0, 0x1C, 0x00, 0x01, 0xFD] ∧ i = .setTransmit) ∨
    (stripWake bytes = [0xFE, 0xFE, 0x88, 0xE0, 0x1A, 0x06, 0x01, 0x02, 0xFD] ∧ i = .setDataMode true) ∨
    (stripWake bytes = [0xFE, 0xFE, 0x88, 0xE0, 0x1A, 0x06, 0x00, 0x00, 0xFD] ∧ i = .setDataMode false)

/-- R79, R80, R84: what a wire operation with arguments in range writes, wake-up bytes and all, is classified as that
operation, at every rate. -/
def Obligations.EveryWriteIsClassified : Prop :=
  ∀ (b : Baud) (i : Instr) (r : Request), requestOf b i = some r → i.wellFormed = true →
    classifyWrite r.out = some i

/-- R100: ENCODE's bytes for every Command and address pair, and the pair the sequencer calls it with. -/
def Obligations.EncodeFrameBytes : Prop :=
  (∀ (c : Command) (dest src : Byte), encodeFrame c dest src =
    [0xFE, 0xFE] ++ [dest, src, c.cmdNum] ++ (match c.subcmdNum with | some s => [s] | none => []) ++
      (match c.data with | some d => d | none => []) ++ [0xFD]) ∧
  ∀ r : Request, r.out = r.wakeBytes ++ encodeFrame r.command 0x88 0xE0

/-- R102, which the spec marks as derived from R100: the length of ENCODE's output and what stands at each index. -/
def Obligations.EncodeLengthAndPositions : Prop :=
  ∀ (c : Command) (dest src : Byte) (s k : Nat) (pay : List Byte),
    s = (match c.subcmdNum with | some _ => 1 | none => 0) →
    pay = (match c.data with | some d => d | none => []) → k = pay.length →
    (encodeFrame c dest src).length = 6 + s + k ∧
    (encodeFrame c dest src)[0]? = some 0xFE ∧ (encodeFrame c dest src)[1]? = some 0xFE ∧
    (encodeFrame c dest src)[2]? = some dest ∧ (encodeFrame c dest src)[3]? = some src ∧
    (encodeFrame c dest src)[4]? = some c.cmdNum ∧
    (∀ sub, c.subcmdNum = some sub → (encodeFrame c dest src)[5]? = some sub) ∧
    (∀ j, j < k → (encodeFrame c dest src)[5 + s + j]? = pay[j]?) ∧
    (encodeFrame c dest src)[5 + s + k]? = some 0xFD

/-- R103: an absent payload and an empty payload are the same on the wire. -/
def Obligations.AbsentPayloadIsEmptyPayload : Prop :=
  ∀ (cmd : Byte) (sub : Option Byte) (dest src : Byte),
    encodeFrame ⟨cmd, sub, none⟩ dest src = encodeFrame ⟨cmd, sub, some []⟩ dest src

/-- R104, which the spec marks as derived from R100 and R73: ENCODE's output is well-formed exactly when no field is the
terminator. -/
def Obligations.EncodedFrameWellFormedIff : Prop :=
  ∀ (c : Command) (dest src : Byte), FrameWF (encodeFrame c dest src) ↔
    dest ≠ 0xFD ∧ src ≠ 0xFD ∧ c.cmdNum ≠ 0xFD ∧ c.subcmdNum ≠ some 0xFD ∧ ∀ d, c.data = some d → 0xFD ∉ d

/-- R130, R122, R125: DECODE by the index of the first terminator, its tests in the order of R130. -/
def Obligations.DecodeReportsFirstFailedTest : Prop :=
  (∀ (bytes : List Byte) (d s : Byte), 0xFD ∉ bytes → decodeFrame bytes d s = .error .truncated) ∧
  ∀ (bytes : List Byte) (d s : Byte) (t : Nat), bytes[t]? = some 0xFD → (∀ j, j < t → bytes[j]? ≠ some 0xFD) →
    decodeFrame bytes d s =
      if ¬(2 ≤ t ∧ bytes[0]? = some 0xFE ∧ bytes[1]? = some 0xFE) then .error .badPreamble
      else if ¬(4 ≤ t ∧ bytes[2]? = some d ∧ bytes[3]? = some s) then .error .badAddressing
      else if t = 4 then .error .truncated
      else .ok { cmdNum := bytes.getD 4 0, blob := (bytes.take t).drop 5 }

/-- R127: bytes after the terminator are ignored. -/
def Obligations.DecodeIgnoresTrailingBytes : Prop :=
  ∀ (bytes tail : List Byte) (d s : Byte), 0xFD ∈ bytes → decodeFrame (bytes ++ tail) d s = decodeFrame bytes d s

/-- R129, which the spec marks as derived from R100 and R120: the round-trip law. -/
def Obligations.FrameRoundTripLaw : Prop :=
  ∀ (c : Command) (d s : Byte), d ≠ 0xFD → s ≠ 0xFD → c.cmdNum ≠ 0xFD → c.subcmdNum ≠ some 0xFD →
    (∀ pay, c.data = some pay → 0xFD ∉ pay) →
    decodeFrame (encodeFrame c d s) d s = .ok { cmdNum := c.cmdNum
                                                blob := (match c.subcmdNum with | some x => [x] | none => []) ++
                                                  (match c.data with | some pay => pay | none => []) }

/-- R86: the collected responses the block accepts are the frames FE FE E0 88 cmd blob FD, cmd and blob without FD. -/
def Obligations.AcceptedResponseForm : Prop :=
  ∀ (bytes : List Byte) (cmd : Byte) (blob : List Byte), (∃ xs, bytes = xs ++ [0xFD] ∧ 0xFD ∉ xs) →
    (decodeFrame bytes 0xE0 0x88 = .ok ⟨cmd, blob⟩ ↔
      bytes = [0xFE, 0xFE, 0xE0, 0x88, cmd] ++ blob ++ [0xFD] ∧ cmd ≠ 0xFD ∧ 0xFD ∉ blob)

/-- R124 and C3: an outbound frame of the block, read back unchanged with any bytes after it, is no response: it fails with
BadAddressing. -/
def Obligations.OwnFrameIsNoResponse : Prop :=
  ∀ (b : Baud) (i : Instr) (r : Request) (tail : List Byte), requestOf b i = some r → i.wellFormed = true →
    decodeFrame (encodeFrame r.command 0x88 0xE0 ++ tail) 0xE0 0x88 = .error .badAddressing

/-! ### Reset, bring-up, session end -/

/-- R34, R250: the state after a successful bring-up. The configuration, CANCEL's level and the successful `open` are the
model's choice (log entries 6 and 8), and so is the session flag (log entry 23); the mirror is the free
RADIO_STATE_INIT, whose legality is part of the model's form of it (log entry 7). -/
def Obligations.ResetRegisters : Prop :=
  State.reset.seq = .idle ∧ State.reset.cur = none ∧ State.reset.rxbuf = [] ∧ State.reset.attempts = 0 ∧
    State.reset.mirror = Config.radioStateInit ∧ State.reset.mirror.legal = true ∧ State.reset.held = [] ∧
    State.reset.answers = [] ∧ State.reset.calls = [.opened defaultConfiguration true] ∧ State.reset.txStream = [] ∧
    State.reset.inSession = true

/-- R250: a session's bring-up fixes the configuration, refuses a BAUD outside the table, calls `open` once with the
configuration, and leaves the registers fresh: IDLE and the mirror from RADIO_STATE_INIT when `open` succeeds, CLOSED when it
fails. -/
def Obligations.BringUpRegisters : Prop :=
  ∀ (s : State) (setup : SessionSetup) (rest : List Event), s.schedule = .bringUp setup :: rest → s.inSession = false →
    (baudOfNat setup.baud = none → step s = .refused (.baudNotInTable setup.baud)) ∧
    ∀ b : Baud, baudOfNat setup.baud = some b → 1 ≤ setup.maxReadAttempts → setup.init.legal = true →
    ∃ t, step s = .next t ∧
      t.config = ⟨b, setup.maxReadAttempts, setup.busyPolicy, setup.ackPredicate, setup.observerPresent⟩ ∧
      t.calls = s.calls ++ [.opened t.config setup.openSucceeds] ∧
      (setup.openSucceeds = true →
        t.mirror = setup.init ∧ t.seq = .idle ∧ t.cur = none ∧ t.rxbuf = [] ∧ t.attempts = 0) ∧
      (setup.openSucceeds = false → t.seq = .closed)

/-- R251, R254, R51: a session ends with one `close`, from IDLE or CLOSED, whether `open` had succeeded or not; it ends
once; and a bring-up needs the session before it to have ended. That requests still held are dropped unanswered is log
entry 15, that the mirror and the registers are fresh after a failed `open` too is log entry 16, and the flag that says
whether a session is going on is log entry 23. -/
def Obligations.SessionEndAndNextSession : Prop :=
  (∀ (s : State) (rest : List Event), s.schedule = .endSession :: rest → s.seq.inFlight = false →
    (s.inSession = true →
      step s = .next { s with schedule := rest, inSession := false, held := [], calls := s.calls ++ [.closed] }) ∧
    (s.inSession = false → step s = .refused .noSession)) ∧
  ∀ (s : State) (setup : SessionSetup) (rest : List Event), s.schedule = .bringUp setup :: rest →
    (s.inSession = true → step s = .refused .sessionNotEnded) ∧
    (s.inSession = false → baudOfNat setup.baud ≠ none → 1 ≤ setup.maxReadAttempts → setup.init.legal = true →
      ∃ t, step s = .next t ∧ t.inSession = true ∧ t.cur = none ∧ t.rxbuf = [] ∧ t.attempts = 0 ∧ t.reason = none ∧
        t.mirror = setup.init ∧ t.cancel = s.cancel ∧ t.answers = s.answers ∧ t.observed = s.observed ∧ t.schedule = rest)

/-- R200: a BAUD not in the table is refused when the block is instantiated. -/
def Obligations.BaudOutsideTableRefused : Prop :=
  ∀ (s : State) (setup : SessionSetup) (rest : List Event), s.schedule = .bringUp setup :: rest → s.inSession = false →
    setup.baud ∉ [300, 1200, 4800, 9600, 19200] → step s = .refused (.baudNotInTable setup.baud)

/-- R254, D35: the block does not close while a request is in flight; the model refuses it (log entry 15). -/
def Obligations.CloseDuringRequestRefused : Prop :=
  ∀ (s : State) (rest : List Event), s.schedule = .endSession :: rest → s.seq.inFlight = true →
    step s = .refused .closeInFlight

/-- R252: a failed open is final for the session: CLOSED stays, every request is answered CONNECT_ERROR, and the
channel is not called again, `open` included. -/
def Obligations.FailedOpenIsFinal : Prop :=
  (∀ s t : State, s.seq = .closed → s.sameSession → step s = .next t → t.seq = .closed ∧ t.calls = s.calls) ∧
  ∀ (s : State) (i : Instr), s.seq = .closed → exec i s = .next (s.answeredOnly i .connectError none)

/-! ### The request port and the operations -/

/-- With a request waiting on the port, a step is that operation, the request taken off; with the block left to itself, by
an event or by an empty schedule, a step is the sequencer's own (R160; log entry 2); and the word the decoder reads is the
operation that runs next, whatever stood on the port. With no session there is no port, and the request is refused (log
entry 23). -/
def Obligations.StepRunsTheRequest : Prop :=
  (∀ (s : State) (i : Instr) (rest : List Event), s.schedule = .request i :: rest →
    (s.inSession = true → step s = exec i { s with schedule := rest }) ∧
    (s.inSession = false → step s = .refused .noSession)) ∧
  (∀ (s : State) (rest : List Event), s.schedule = .advance :: rest → step s = advance { s with schedule := rest }) ∧
  (∀ s : State, s.schedule = [] → step s = advance s) ∧
  ∀ (s : State) (nbits w : Nat) (i : Instr), s.inSession = true → decodeTableWord nbits w = some i →
    step (s.withFetchWord nbits w) = exec i s

/-- R238: every request of the vocabulary, in every state, has a next state. -/
def Obligations.EveryRequestHasANextState : Prop :=
  ∀ (i : Instr) (s : State), ∃ t, exec i s = .next t

/-- R161: the order in which the port tests a request. -/
def Obligations.RequestTestsInOrder : Prop :=
  (∀ (s : State) (i : Instr) (r : Request), requestOf s.config.baud i = some r →
    exec i s =
      if s.seq = .closed then .next (s.answeredOnly i .connectError none)
      else if i.wellFormed = false then .next (s.answeredOnly i .invalidArgument none)
      else if s.seq.inFlight = true then
        (match s.config.busyPolicy with
          | .reject => .next (s.answeredOnly i .busy none)
          | .block => .next { s with held := s.held ++ [r] })
      else .next { s with seq := .sent, cur := some r }) ∧
  ∀ s : State, exec .readState s =
    if s.seq = .closed then .next (s.answeredOnly .readState .connectError none)
    else .next (s.answeredOnly .readState .ok (some s.mirror))

/-- R221: an out-of-range argument is answered INVALID_ARGUMENT and does nothing else, in flight or not; and nothing else
is answered INVALID_ARGUMENT. -/
def Obligations.OutOfRangeArgumentAnswered : Prop :=
  (∀ (s : State) (n : Int), s.seq ≠ .closed →
    (¬(1 ≤ n ∧ n ≤ 100) → exec (.gotoMemory n) s = .next (s.answeredOnly (.gotoMemory n) .invalidArgument none)) ∧
    (¬(1 ≤ n ∧ n ≤ 6) → exec (.selectBank n) s = .next (s.answeredOnly (.selectBank n) .invalidArgument none))) ∧
  ∀ (s t : State) (a : Answer), step s = .next t → t.answers = s.answers ++ [a] → a.code = .invalidArgument →
    t.calls = s.calls ∧ ∃ n : Int, (a.request = .gotoMemory n ∧ ¬(1 ≤ n ∧ n ≤ 100)) ∨
      (a.request = .selectBank n ∧ ¬(1 ≤ n ∧ n ≤ 6))

/-- R162: under REJECT, a valid wire request made while another is in flight is answered BUSY and changes no register. -/
def Obligations.BusyRequestRejected : Prop :=
  ∀ (s : State) (i : Instr), i.isWire = true → i.wellFormed = true → s.seq.inFlight = true →
    s.config.busyPolicy = .reject → exec i s = .next (s.answeredOnly i .busy none)

/-- R226: BUSY is answered only to a valid wire request presented under REJECT while another is in flight; under BLOCK
such a request is held. -/
def Obligations.BusyOnlyUnderReject : Prop :=
  (∀ (s t : State) (a : Answer), step s = .next t → t.answers = s.answers ++ [a] → a.code = .busy →
    s.config.busyPolicy = .reject ∧ s.seq.inFlight = true ∧ a.request.isWire = true ∧ a.request.wellFormed = true ∧
      ∃ rest, s.schedule = .request a.request :: rest) ∧
  ∀ (s : State) (i : Instr) (r : Request), requestOf s.config.baud i = some r → i.wellFormed = true →
    s.seq.inFlight = true → s.config.busyPolicy = .block → exec i s = .next { s with held := s.held ++ [r] }

/-- R163: under BLOCK a valid wire request made while another is in flight is held; no step takes a held request away
before SEQ is IDLE; and in IDLE, any one of the held requests may be accepted next. -/
def Obligations.HeldUntilIdleThenAnyOrder : Prop :=
  (∀ (s : State) (i : Instr) (r : Request), requestOf s.config.baud i = some r → i.wellFormed = true →
    s.seq.inFlight = true → s.config.busyPolicy = .block → exec i s = .next { s with held := s.held ++ [r] }) ∧
  (∀ s t : State, s.seq.inFlight = true → step s = .next t → s.held <+: t.held) ∧
  ∀ (s : State) (k : Nat) (r : Request) (more : List Nat), s.schedule = [] → s.seq = .idle → s.held[k]? = some r →
    s.picks = k :: more →
    step s = .next { s with seq := .sent, cur := some r, held := s.held.eraseIdx k, picks := more }

/-- The frame of all eight operations on the port: no operation touches RXBUF, ATTEMPTS, the reason, CANCEL, the
configuration, the mirror, the channel, the observer or what the outside does later; SEQ and CUR change only where IDLE
accepts a wire operation with valid arguments; the answers and the held requests only grow, by one at most. -/
def Obligations.PortFrame : Prop :=
  ∀ (i : Instr) (s t : State), exec i s = .next t →
    t.rxbuf = s.rxbuf ∧ t.attempts = s.attempts ∧ t.reason = s.reason ∧ t.cancel = s.cancel ∧ t.config = s.config ∧
    t.mirror = s.mirror ∧ t.calls = s.calls ∧ t.txStream = s.txStream ∧ t.observed = s.observed ∧
    t.schedule = s.schedule ∧ t.reads = s.reads ∧ t.writes = s.writes ∧ t.picks = s.picks ∧ t.draws = s.draws ∧
    t.inSession = s.inSession ∧ (s.seq ≠ .idle ∨ i = .readState → t.seq = s.seq ∧ t.cur = s.cur) ∧
    ((t.seq = s.seq ∧ t.cur = s.cur ∧ t.held = s.held ∧ ∃ a, a.request = i ∧ t.answers = s.answers ++ [a]) ∨
      (t.seq = s.seq ∧ t.cur = s.cur ∧ t.answers = s.answers ∧ ∃ r, r.request = i ∧ t.held = s.held ++ [r]) ∨
      (s.seq = .idle ∧ i.isWire = true ∧ i.wellFormed = true ∧ t.answers = s.answers ∧ t.held = s.held ∧ t.seq = .sent ∧
        ∃ r, r.request = i ∧ t.cur = some r))

/-- R191: POWER_ON: what the port does with it, the bytes of its one write at each rate, OK_BEST_EFFORT whatever COLLECT
read, the mirror untouched, and IO_ERROR on a transport failure. -/
def Obligations.PowerOnMeaning : Prop :=
  PortServes .powerOn (fun b => ⟨.powerOn, ⟨0x18, some 0x01, none⟩, List.replicate (wakeCount b) 0xFE⟩) ∧
  ∀ b : Baud,
    WritesOnce ⟨.powerOn, ⟨0x18, some 0x01, none⟩, List.replicate (wakeCount b) 0xFE⟩
      (List.replicate (wakeCount b) 0xFE ++ [0xFE, 0xFE, 0x88, 0xE0, 0x18, 0x01, 0xFD]) ∧
    TransportFailureEnds ⟨.powerOn, ⟨0x18, some 0x01, none⟩, List.replicate (wakeCount b) 0xFE⟩ ∧
    ∀ (s : State) (r : Request), r = ⟨.powerOn, ⟨0x18, some 0x01, none⟩, List.replicate (wakeCount b) 0xFE⟩ →
      s.schedule = [] → s.cur = some r → s.seq = .gotTerminator ∨ (s.seq = .timedOut ∧ s.reason ≠ none) →
      step s = .next (s.endedWith r .okBestEffort s.mirror)

/-- R192: POWER_OFF: what the port does with it, its one write, and every way it ends, the mirror never written. -/
def Obligations.PowerOffMeaning : Prop :=
  PortServes .powerOff (fun _ => ⟨.powerOff, ⟨0x18, some 0x00, none⟩, []⟩) ∧
  WritesOnce ⟨.powerOff, ⟨0x18, some 0x00, none⟩, []⟩ [0xFE, 0xFE, 0x88, 0xE0, 0x18, 0x00, 0xFD] ∧
  JudgedEnds ⟨.powerOff, ⟨0x18, some 0x00, none⟩, []⟩ (fun m => m)

/-- R193: GOTO_MEMORY(n): INVALID_ARGUMENT outside 1..100; inside, what the port does with it, its one write, n in plain
binary, and every way it ends, memory_num set to n on OK. -/
def Obligations.GotoMemoryMeaning : Prop :=
  ∀ n : Int,
    (¬(1 ≤ n ∧ n ≤ 100) → ∀ s : State, s.seq ≠ .closed →
      exec (.gotoMemory n) s = .next (s.answeredOnly (.gotoMemory n) .invalidArgument none)) ∧
    (1 ≤ n ∧ n ≤ 100 → ∃ nn : Byte, (nn.toNat : Int) = n ∧
      PortServes (.gotoMemory n) (fun _ => ⟨.gotoMemory n, ⟨0x08, none, some [nn]⟩, []⟩) ∧
      WritesOnce ⟨.gotoMemory n, ⟨0x08, none, some [nn]⟩, []⟩ [0xFE, 0xFE, 0x88, 0xE0, 0x08, nn, 0xFD] ∧
      JudgedEnds ⟨.gotoMemory n, ⟨0x08, none, some [nn]⟩, []⟩ (fun m => { m with memoryNum := n }))

/-- R194: SELECT_BANK(n): INVALID_ARGUMENT outside 1..6; inside, what the port does with it, its one write, and every way it
ends, memory_bank set to n on OK and nothing else of the mirror. -/
def Obligations.SelectBankMeaning : Prop :=
  ∀ n : Int,
    (¬(1 ≤ n ∧ n ≤ 6) → ∀ s : State, s.seq ≠ .closed →
      exec (.selectBank n) s = .next (s.answeredOnly (.selectBank n) .invalidArgument none)) ∧
    (1 ≤ n ∧ n ≤ 6 → ∃ nn : Byte, (nn.toNat : Int) = n ∧
      PortServes (.selectBank n) (fun _ => ⟨.selectBank n, ⟨0x08, some 0xA0, some [nn]⟩, []⟩) ∧
      WritesOnce ⟨.selectBank n, ⟨0x08, some 0xA0, some [nn]⟩, []⟩ [0xFE, 0xFE, 0x88, 0xE0, 0x08, 0xA0, nn, 0xFD] ∧
      JudgedEnds ⟨.selectBank n, ⟨0x08, some 0xA0, some [nn]⟩, []⟩ (fun m => { m with memoryBank := n }))

/-- R195: SET_RECEIVE: what the port does with it, its one write, and every way it ends, transmitting false on OK. -/
def Obligations.SetReceiveMeaning : Prop :=
  PortServes .setReceive (fun _ => ⟨.setReceive, ⟨0x1C, some 0x00, some [0x00]⟩, []⟩) ∧
  WritesOnce ⟨.setReceive, ⟨0x1C, some 0x00, some [0x00]⟩, []⟩ [0xFE, 0xFE, 0x88, 0xE0, 0x1C, 0x00, 0x00, 0xFD] ∧
  JudgedEnds ⟨.setReceive, ⟨0x1C, some 0x00, some [0x00]⟩, []⟩ (fun m => { m with transmitting := false })

/-- R196: SET_TRANSMIT: what the port does with it, its one write, and every way it ends, transmitting true on OK. -/
def Obligations.SetTransmitMeaning : Prop :=
  PortServes .setTransmit (fun _ => ⟨.setTransmit, ⟨0x1C, some 0x00, some [0x01]⟩, []⟩) ∧
  WritesOnce ⟨.setTransmit, ⟨0x1C, some 0x00, some [0x01]⟩, []⟩ [0xFE, 0xFE, 0x88, 0xE0, 0x1C, 0x00, 0x01, 0xFD] ∧
  JudgedEnds ⟨.setTransmit, ⟨0x1C, some 0x00, some [0x01]⟩, []⟩ (fun m => { m with transmitting := true })

/-- R197: SET_DATA_MODE(on): what the port does with it, its one write for each value, and every way it ends, data_mode
set to it on OK. -/
def Obligations.SetDataModeMeaning : Prop :=
  ∀ on : Bool,
    PortServes (.setDataMode on)
      (fun _ => ⟨.setDataMode on, ⟨0x1A, some 0x06, some (if on then [0x01, 0x02] else [0x00, 0x00])⟩, []⟩) ∧
    WritesOnce ⟨.setDataMode on, ⟨0x1A, some 0x06, some (if on then [0x01, 0x02] else [0x00, 0x00])⟩, []⟩
      ([0xFE, 0xFE, 0x88, 0xE0, 0x1A, 0x06] ++ (if on then [0x01, 0x02] else [0x00, 0x00]) ++ [0xFD]) ∧
    JudgedEnds ⟨.setDataMode on, ⟨0x1A, some 0x06, some (if on then [0x01, 0x02] else [0x00, 0x00])⟩, []⟩
      (fun m => { m with dataMode := on })

/-- R198: READ_STATE: CONNECT_ERROR in CLOSED; in every other state, in flight or not, OK with a copy of the mirror, and
nothing else changes. -/
def Obligations.ReadStateMeaning : Prop :=
  ∀ s : State,
    (s.seq = .closed → exec .readState s = .next (s.answeredOnly .readState .connectError none)) ∧
    (s.seq ≠ .closed → exec .readState s = .next (s.answeredOnly .readState .ok (some s.mirror)))

/-! ### SEND: write, collect, complete -/

/-- R141: COLLECT starts after a write that returned Ok, with RXBUF empty and ATTEMPTS 0, and only then. -/
def Obligations.CollectStartsAfterWrite : Prop :=
  (∀ (s : State) (r : Request) (more : List WriteAnswer), s.schedule = [] → s.seq = .sent → s.cur = some r →
    s.writes = .ok :: more →
    step s = .next { s with seq := .awaitingByte, rxbuf := [], attempts := 0, writes := more
                            calls := s.calls ++ [.write r.out .ok]
                            observed := s.observed ++ observation s .outbound r.out }) ∧
  ∀ s t : State, step s = .next t → t.seq = .awaitingByte → s.seq ≠ .awaitingByte →
    s.seq = .sent ∧ s.nextWrite = .ok ∧ t.rxbuf = [] ∧ t.attempts = 0

/-- R165: a failed write ends the request with IO_ERROR: no read attempt, the mirror unchanged, a prefix of the bytes on
the TX stream, nothing repeated. That the observer is then told the outbound bytes alone is log entry 14. -/
def Obligations.WriteFailureEndsRequest : Prop :=
  ∀ (s : State) (r : Request) (more : List WriteAnswer) (k : Nat), s.schedule = [] → s.seq = .sent → s.cur = some r →
    s.writes = .ioError k :: more →
    ∃ t, step s = .next t ∧ t.txStream = s.txStream ++ r.out.take k ∧
      t = { s with seq := .idle, cur := none, rxbuf := [], attempts := 0, reason := none, writes := more
                   calls := s.calls ++ [.write r.out (.ioError k)]
                   observed := s.observed ++ observation s .outbound r.out
                   answers := s.answers ++ [⟨r.request, .ioError, none⟩] }

/-- R140, R144: one pass of COLLECT: CANCEL, then the bound, then one read attempt and its answer. -/
def Obligations.CollectPassFollowsTheLoop : Prop :=
  ∀ (s : State) (r : Request), s.schedule = [] → s.seq = .awaitingByte → s.cur = some r →
    step s = .next (
      if s.cancel = true then
        { s with seq := .timedOut, reason := some .cancelled
                 observed := s.observed ++ observation s .inbound s.rxbuf }
      else if s.attempts = s.config.maxReadAttempts then
        { s with seq := .timedOut, reason := some .exhausted
                 observed := s.observed ++ observation s .inbound s.rxbuf }
      else match s.nextRead with
        | .ioError =>
          { s.afterAttempt with
              seq := .idle, cur := none, rxbuf := [], attempts := 0, reason := none
              observed := s.observed ++ observation s .inbound s.rxbuf
              answers := s.answers ++ [⟨r.request, .ioError, none⟩] }
        | .silent =>
          { s.afterAttempt with
              seq := .timedOut, reason := some .silent
              observed := s.observed ++ observation s .inbound s.rxbuf }
        | .byte b =>
          if b = 0xFD then
            { s.afterAttempt with
                seq := .gotTerminator, rxbuf := s.rxbuf ++ [b]
                observed := s.observed ++ observation s .inbound (s.rxbuf ++ [b]) }
          else { s.afterAttempt with rxbuf := s.rxbuf ++ [b] })

/-- R147: what a request other than POWER_ON is answered for each end of COLLECT, and POWER_ON's own rows. -/
def Obligations.OutcomeMapping : Prop :=
  ∀ (s : State) (r : Request), s.schedule = [] → s.cur = some r →
    (s.seq = .gotTerminator → r.request ≠ .powerOn →
      (decodeFrame s.rxbuf 0xE0 0x88 = .error .badPreamble → step s = .next (s.endedWith r .badPreamble s.mirror)) ∧
      (decodeFrame s.rxbuf 0xE0 0x88 = .error .badAddressing → step s = .next (s.endedWith r .badAddressing s.mirror)) ∧
      (decodeFrame s.rxbuf 0xE0 0x88 = .error .truncated → step s = .next (s.endedWith r .truncated s.mirror)) ∧
      (∀ p, decodeFrame s.rxbuf 0xE0 0x88 = .ok p → ackAccepts s.config.ackPredicate r.command p = true →
        step s = .next (s.endedWith r .ok (applyTo r.request s.mirror))) ∧
      (∀ p, decodeFrame s.rxbuf 0xE0 0x88 = .ok p → ackAccepts s.config.ackPredicate r.command p = false →
        step s = .next (s.endedWith r .notAcknowledged s.mirror))) ∧
    (s.seq = .timedOut → r.request ≠ .powerOn →
      (s.reason = some .silent → s.rxbuf.length = 0 → step s = .next (s.endedWith r .noResponse s.mirror)) ∧
      (s.reason = some .silent → 1 ≤ s.rxbuf.length → step s = .next (s.endedWith r .truncated s.mirror)) ∧
      (s.reason = some .exhausted → step s = .next (s.endedWith r .timeout s.mirror)) ∧
      (s.reason = some .cancelled → step s = .next (s.endedWith r .timeout s.mirror))) ∧
    (r.request = .powerOn → s.seq = .gotTerminator ∨ (s.seq = .timedOut ∧ s.reason ≠ none) →
      step s = .next (s.endedWith r .okBestEffort s.mirror)) ∧
    (s.seq = .awaitingByte → s.cancel = false → s.attempts ≠ s.config.maxReadAttempts → s.nextRead = .ioError →
      ∃ t, step s = .next t ∧ t.seq = .idle ∧ t.mirror = s.mirror ∧
        t.answers = s.answers ++ [⟨r.request, .ioError, none⟩])

/-- R171: CANCEL while the block waits for a byte ends the request with no read attempt, SEQ through TIMED_OUT in the next
pass, then in the completion step (log entry 1) TIMEOUT (POWER_ON: OK_BEST_EFFORT, R147, R191), the mirror unchanged and the
bytes read discarded; in every other SEQ (R142: COLLECT alone samples it) it changes nothing of what a step does. -/
def Obligations.CancelEndsTheReadLoop : Prop :=
  (∀ (s : State) (r : Request), s.schedule = [] → s.seq = .awaitingByte → s.cur = some r → s.cancel = true →
    ∃ t u, step s = .next t ∧ t.seq = .timedOut ∧ t.calls = s.calls ∧ step t = .next u ∧ u.seq = .idle ∧
      u.calls = s.calls ∧ u.rxbuf = [] ∧ u.mirror = s.mirror ∧
      u.answers = s.answers ++ [⟨r.request, if r.request = .powerOn then .okBestEffort else .timeout, none⟩]) ∧
  ∀ (s : State) (level : Bool), s.seq ≠ .awaitingByte →
    ∀ t, advance s = .next t → advance (s.setCancel level) = .next (t.setCancel level)

/-- R169, R170: the mirror changes only in the completion step of a request confirmed by its response, the step that
returns SEQ to IDLE and answers OK, and then by that operation's APPLY; a step that answers any other code leaves it. -/
def Obligations.MirrorWrittenOnlyOnOk : Prop :=
  ∀ s t : State, s.sameSession → step s = .next t → t.mirror ≠ s.mirror →
    ∃ r p, s.cur = some r ∧ s.seq = .gotTerminator ∧ t.seq = .idle ∧ t.mirror = applyTo r.request s.mirror ∧
      t.answers = s.answers ++ [⟨r.request, .ok, none⟩] ∧ decodeFrame s.rxbuf 0xE0 0x88 = .ok p ∧
      ackAccepts s.config.ackPredicate r.command p = true

/-- R29: no operation writes a passive field: each holds its initial value for the whole session. READ_STATE reads it. -/
def Obligations.PassiveFieldsNeverWritten : Prop :=
  (∀ s t : State, s.sameSession → step s = .next t → t.mirror.passive = s.mirror.passive) ∧
  ∀ s : State, s.seq ≠ .closed → ∃ m, exec .readState s = .next (s.answeredOnly .readState .ok (some m)) ∧
    m.passive = s.mirror.passive

/-- R26, R27: no step of a session writes the configuration; the caller's event drives CANCEL to its level and nothing
else, and no other step writes CANCEL. -/
def Obligations.ConfigurationAndCancelNotWritten : Prop :=
  (∀ s t : State, step s = .next t → (s.sameSession → t.config = s.config) ∧
    ((∀ level rest, s.schedule ≠ .cancel level :: rest) → t.cancel = s.cancel)) ∧
  ∀ (s : State) (level : Bool) (rest : List Event), s.schedule = .cancel level :: rest →
    step s = .next { s with schedule := rest, cancel := level }

/-- R64, R59: the block takes a byte off the channel by a read attempt alone, one answer an attempt; no request's begin or
end drains what is left. -/
def Obligations.BacklogNeverDrained : Prop :=
  ∀ s t : State, step s = .next t →
    t.reads = s.reads ∨
    (s.seq = .awaitingByte ∧ s.cancel = false ∧ s.attempts ≠ s.config.maxReadAttempts ∧ t.reads = s.reads.tail ∧
      t.calls = s.calls ++ [.read s.nextRead])

/-- R229, which the spec marks as derived from R167: with the default predicate NOT_ACKNOWLEDGED is never answered. -/
def Obligations.DefaultPredicateAcknowledges : Prop :=
  ∀ (s t : State) (a : Answer), s.config.ackPredicate = .acceptAll → step s = .next t →
    t.answers = s.answers ++ [a] → a.code ≠ .notAcknowledged

/-! ### The whole machine -/

/-- The register invariant holds after reset. -/
def Obligations.ResetMeetsRegisterInvariant : Prop :=
  RegInv State.reset

/-- Every step keeps the register invariant (R22 to R28, R141 to R146, R163, R172). -/
def Obligations.StepKeepsRegisterInvariant : Prop :=
  ∀ s t : State, RegInv s → step s = .next t → RegInv t

/-- The channel calls are in the order of R51 and R61 after reset. -/
def Obligations.ResetMeetsCallOrder : Prop :=
  CallOrder State.reset

/-- Every step keeps the channel calls in order: one `open` and one `close` a session (R51), no write in a session whose
`open` failed (R252), and no read attempt but after the request's write that returned Ok (R61). -/
def Obligations.StepKeepsCallOrder : Prop :=
  ∀ s t : State, CallOrder s → step s = .next t → CallOrder t

/-- R238: from every state that meets the invariant, no step is a fault, and the only refused steps are the end of a
session, a bring-up, and a request outside a session (log entries 15, 17, 23). -/
def Obligations.InvariantStatesNeverFault : Prop :=
  ∀ s : State, RegInv s → (∀ f, step s ≠ .fault f) ∧
    (s.sameSession → s.inSession = true ∨ (∀ i rest, s.schedule ≠ .request i :: rest) → ∃ t, step s = .next t)

/-- R174, which the spec marks as derived from R160 and R161: a step never replaces the request in flight by another, and
only IDLE lets one in. -/
def Obligations.AtMostOneInFlight : Prop :=
  ∀ s t : State, step s = .next t →
    (s.seq.inFlight = true → t.seq.inFlight = true → t.cur = s.cur) ∧
    (s.seq.inFlight = false → t.seq.inFlight = true → s.seq = .idle ∧ t.seq = .sent)

/-- R175, which the spec marks as derived from R174 and R58: the TX stream grows by one request's whole write (or, when the
write fails, by a prefix of it), in that request's write step alone. -/
def Obligations.TxStreamIsWholeWrites : Prop :=
  ∀ s t : State, step s = .next t →
    t.txStream = s.txStream ∨
    (s.seq = .sent ∧ ∃ r, s.cur = some r ∧
      ((s.nextWrite = .ok ∧ t.txStream = s.txStream ++ r.out) ∨
        ∃ k, s.nextWrite = .ioError k ∧ t.txStream = s.txStream ++ r.out.take k))

/-- R220 ("exactly one of these codes"), R263: every request presented is, from then on and once, either answered, held or
in flight; no other step of a session adds or loses one. Its end leaves the answers and, with nothing in flight, drops the
requests still held (log entry 15). -/
def Obligations.EveryRequestCountedOnce : Prop :=
  ∀ s t : State, step s = .next t →
    ((∃ i rest, s.schedule = .request i :: rest) → t.accounted = s.accounted + 1) ∧
    ((∀ i rest, s.schedule ≠ .request i :: rest) → s.sameSession → t.accounted = s.accounted) ∧
    ((∃ rest, s.schedule = .endSession :: rest) → t.accounted + s.held.length = s.accounted ∧ t.answers = s.answers) ∧
    ((∃ setup rest, s.schedule = .bringUp setup :: rest) → s.seq.inFlight = false → t.accounted = s.accounted)

/-- R149, which the spec marks as derived, and R172: left alone, a request in flight ends within MAX_READ_ATTEMPTS + 3
steps, whatever the channel answers, with one answer. The steps are those of log entry 1, and every channel call
returns (log entry 19). -/
def Obligations.RequestInFlightEnds : Prop :=
  ∀ s : State, RegInv s → s.schedule = [] → s.seq.inFlight = true →
    ∃ k t, k ≤ s.config.maxReadAttempts + 3 ∧ runSteps k s = .next t ∧ t.seq = .idle ∧
      t.answers.length = s.answers.length + 1

/-- R164, R166, R169, R172 from the request to its answer: a wire operation with valid arguments presented in IDLE is
accepted, and when the write succeeds and the channel answers with a response frame that ACK_PREDICATE accepts, it ends
after one write, one pass a byte and the completion step (the steps of log entry 1) in the state the rules give. -/
def Obligations.ConfirmedRoundTrip : Prop :=
  ∀ (i : Instr) (s : State) (r : Request) (cmd : Byte) (blob : List Byte) (more : List WriteAnswer)
    (rest : List ReadAnswer),
    requestOf s.config.baud i = some r → i.wellFormed = true → s.seq = .idle → s.schedule = [] → s.cancel = false →
    s.writes = .ok :: more → s.reads = (responseFrame cmd blob).map .byte ++ rest → 0xFD ∉ cmd :: blob →
    (responseFrame cmd blob).length ≤ s.config.maxReadAttempts →
    ackAccepts s.config.ackPredicate r.command ⟨cmd, blob⟩ = true →
    ∃ t, exec i s = .next t ∧ runSteps (blob.length + 8) t = .next
      { s with seq := .idle, cur := none, rxbuf := [], attempts := 0, reason := none
               mirror := applyTo i s.mirror
               answers := s.answers ++ [⟨i, if i = .powerOn then .okBestEffort else .ok, none⟩]
               writes := more, reads := rest
               calls := s.calls ++ [.write r.out .ok] ++ (responseFrame cmd blob).map (fun b => .read (.byte b))
               observed := s.observed ++ observation s .outbound r.out ++
                 observation s .inbound (responseFrame cmd blob) }

/-- R237: the observer hook cannot change the block's state or a result: with and without it, a step answers alike but for
what the hook was told. -/
def Obligations.ObserverChangesNothing : Prop :=
  ∀ s : State,
    match step s, step s.unobserved with
    | .next t, .next u => t.unobserved = u.unobserved
    | .fault f, .fault g => f = g
    | .refused a, .refused b => a = b
    | _, _ => False
end

