-- ==== Sys2Proof/Laws/Codec.lean ====
section
/-! SUPPORT. The terminator scan and the frame decoder: one lemma for each thing they can do. -/

namespace Sys2Proof.Machine

theorem beforeTerminator_none_iff (bs : List Byte) : beforeTerminator bs = none ↔ terminatorByte ∉ bs := by
  induction bs with
  | nil => simp [beforeTerminator]
  | cons b bs ih =>
    by_cases h : b = terminatorByte
    · simp [beforeTerminator, h]
    · simp [beforeTerminator, h, ih, Ne.symm (a := b) h]

/-- The scan stops at the first terminator and ignores what follows it (R121, R127). -/
theorem beforeTerminator_append {xs : List Byte} (ys : List Byte) (h : terminatorByte ∉ xs) :
    beforeTerminator (xs ++ terminatorByte :: ys) = some xs := by
  induction xs with
  | nil => simp [beforeTerminator]
  | cons x xs ih =>
    simp only [List.mem_cons, not_or] at h
    have hx : x ≠ terminatorByte := Ne.symm h.1
    simp [beforeTerminator, hx, ih h.2]

/-- A list with a terminator is what comes before its first one, that one, and a rest. -/
theorem split_at_terminator {bs : List Byte} (h : terminatorByte ∈ bs) :
    ∃ xs ys, bs = xs ++ terminatorByte :: ys ∧ terminatorByte ∉ xs := by
  induction bs with
  | nil => cases h
  | cons b bs ih =>
    by_cases hb : b = terminatorByte
    · exact ⟨[], bs, by simp [hb], by simp⟩
    · obtain ⟨xs, ys, rfl, hx⟩ := ih (by simpa [Ne.symm (a := b) hb] using h)
      exact ⟨b :: xs, ys, rfl, by simp [hx, Ne.symm (a := b) hb]⟩

/-- DECODE of a terminated input is the tests on the bytes before its first terminator. -/
theorem decodeFrame_append {xs : List Byte} (ys : List Byte) (d s : Byte) (h : terminatorByte ∉ xs) :
    decodeFrame (xs ++ terminatorByte :: ys) d s = decodeBody d s xs := by
  simp [decodeFrame, beforeTerminator_append ys h]

/-- When the tests on the bytes before the terminator pass, these are the preamble, the addresses, the command number
and the blob (R126). -/
theorem decodeBody_ok_iff (d s : Byte) (xs : List Byte) (p : ParsedFrame) :
    decodeBody d s xs = .ok p ↔ xs = [preambleByte, preambleByte, d, s, p.cmdNum] ++ p.blob := by
  obtain ⟨c, blob⟩ := p
  match xs with
  | [] | [_] => simp [decodeBody]
  | [_, _] | [_, _, _] => simp only [decodeBody, decodeAddressed]; split <;> simp
  | [a, b, e, f] => simp only [decodeBody, decodeAddressed]; split <;> (try split) <;> simp
  | a :: b :: e :: f :: g :: rest =>
    simp only [decodeBody, decodeAddressed]
    split
    · split <;> simp_all
    · simp_all

end Sys2Proof.Machine
end

