-- ==== Sys2Proof/Laws/PerInstr.lean ====
section
/-! SUPPORT. Statements made per operation: the family WireFrame. -/

/-- The word of a wire operation with arguments in range is a well-formed outbound frame, with no terminator inside it
(R73, R74, R81). -/
def Sys2Proof.Laws.WireFrame.Statement (i : Sys2Proof.Instr) : Prop :=
  i.isWire = true → i.wellFormed = true →
    Sys2Proof.Machine.FrameWF (Sys2Proof.encode i) ∧
      (Sys2Proof.encode i)[2]? = some Sys2Proof.xcvrAddr ∧ (Sys2Proof.encode i)[3]? = some Sys2Proof.ctrlAddr

namespace Sys2Proof.Laws.WireFrame

open Sys2Proof Sys2Proof.Machine

/-- The word of fields without a terminator is a well-formed outbound frame. -/
theorem outboundFrame_wf (cmd : Byte) (fields : List Byte) (h : terminatorByte ∉ cmd :: fields) :
    FrameWF (outboundFrame (cmd :: fields)) ∧ (outboundFrame (cmd :: fields))[2]? = some xcvrAddr ∧
      (outboundFrame (cmd :: fields))[3]? = some ctrlAddr := by
  refine ⟨⟨by simp [outboundFrame], by simp [outboundFrame], by simp [outboundFrame], by simp [outboundFrame], ?_⟩,
    by simp [outboundFrame], by simp [outboundFrame]⟩
  intro k hk hl he
  simp only [outboundFrame, List.length_append, List.length_cons, List.length_nil] at hl
  match k with
  | 0 | 1 => omega
  | 2 => simp [outboundFrame, xcvrAddr, terminatorByte] at he
  | 3 => simp [outboundFrame, ctrlAddr, terminatorByte] at he
  | k + 4 =>
    have hb : k < (cmd :: fields).length := by simp; omega
    have : (outboundFrame (cmd :: fields))[k + 4]? = (cmd :: fields)[k]? := by
      simp only [outboundFrame, List.cons_append, List.nil_append, List.getElem?_cons_succ]
      rw [← List.cons_append, List.getElem?_append_left hb]
    rw [this] at he
    exact h (List.mem_of_getElem? he)

/-- The operand byte of an argument up to 100 is not the terminator (R81). -/
theorem operand_ne_terminator {n : Int} (h1 : 1 ≤ n) (h2 : n ≤ 100) : terminatorByte ≠ BitVec.ofInt 8 n := by
  obtain ⟨k, rfl⟩ : ∃ k : Nat, n = k := ⟨n.toNat, by omega⟩
  intro h
  have := congrArg BitVec.toNat h
  simp [terminatorByte, BitVec.toNat_ofNat] at this
  omega

theorem powerOn : Statement .powerOn := fun _ _ => outboundFrame_wf _ _ (by decide)

theorem powerOff : Statement .powerOff := fun _ _ => outboundFrame_wf _ _ (by decide)

theorem gotoMemory (n : Int) : Statement (.gotoMemory n) := fun _ h => by
  simp only [Instr.wellFormed, decide_eq_true_eq] at h
  exact outboundFrame_wf _ _ (by simp [operand_ne_terminator h.1 h.2]; decide)

theorem selectBank (n : Int) : Statement (.selectBank n) := fun _ h => by
  simp only [Instr.wellFormed, decide_eq_true_eq] at h
  exact outboundFrame_wf _ _ (by simp [operand_ne_terminator h.1 (by omega)]; decide)

theorem setReceive : Statement .setReceive := fun _ _ => outboundFrame_wf _ _ (by decide)

theorem setTransmit : Statement .setTransmit := fun _ _ => outboundFrame_wf _ _ (by decide)

theorem setDataMode (on : Bool) : Statement (.setDataMode on) := fun _ _ => by
  cases on <;> exact outboundFrame_wf _ _ (by decide)

theorem readState : Statement .readState := fun h => by cases h

end Sys2Proof.Laws.WireFrame
end

