-- ==== Sys2Proof/Laws/State.lean ====
section
/-! SUPPORT. One lemma per field and per named update of the state: what each operation of Machine/ writes and what it
leaves, so that no proof unfolds a record update. -/

namespace Sys2Proof.Machine

variable (s : State)

section answer
variable (i : Instr) (code : Result) (snap : Option RadioState)
@[simp] theorem State.answer_seq : (s.answer i code snap).seq = s.seq := rfl
@[simp] theorem State.answer_inSession : (s.answer i code snap).inSession = s.inSession := rfl
@[simp] theorem State.answer_cur : (s.answer i code snap).cur = s.cur := rfl
@[simp] theorem State.answer_rxbuf : (s.answer i code snap).rxbuf = s.rxbuf := rfl
@[simp] theorem State.answer_attempts : (s.answer i code snap).attempts = s.attempts := rfl
@[simp] theorem State.answer_reason : (s.answer i code snap).reason = s.reason := rfl
@[simp] theorem State.answer_cancel : (s.answer i code snap).cancel = s.cancel := rfl
@[simp] theorem State.answer_config : (s.answer i code snap).config = s.config := rfl
@[simp] theorem State.answer_mirror : (s.answer i code snap).mirror = s.mirror := rfl
@[simp] theorem State.answer_held : (s.answer i code snap).held = s.held := rfl
@[simp] theorem State.answer_answers : (s.answer i code snap).answers = s.answers ++ [⟨i, code, snap⟩] := rfl
@[simp] theorem State.answer_calls : (s.answer i code snap).calls = s.calls := rfl
@[simp] theorem State.answer_observed : (s.answer i code snap).observed = s.observed := rfl
@[simp] theorem State.answer_schedule : (s.answer i code snap).schedule = s.schedule := rfl
@[simp] theorem State.answer_reads : (s.answer i code snap).reads = s.reads := rfl
@[simp] theorem State.answer_writes : (s.answer i code snap).writes = s.writes := rfl
@[simp] theorem State.answer_picks : (s.answer i code snap).picks = s.picks := rfl
@[simp] theorem State.answer_draws : (s.answer i code snap).draws = s.draws := rfl
end answer

section observe
variable (d : Direction) (bytes : List Byte)
@[simp] theorem State.observe_seq : (s.observe d bytes).seq = s.seq := rfl
@[simp] theorem State.observe_inSession : (s.observe d bytes).inSession = s.inSession := rfl
@[simp] theorem State.observe_cur : (s.observe d bytes).cur = s.cur := rfl
@[simp] theorem State.observe_rxbuf : (s.observe d bytes).rxbuf = s.rxbuf := rfl
@[simp] theorem State.observe_attempts : (s.observe d bytes).attempts = s.attempts := rfl
@[simp] theorem State.observe_reason : (s.observe d bytes).reason = s.reason := rfl
@[simp] theorem State.observe_cancel : (s.observe d bytes).cancel = s.cancel := rfl
@[simp] theorem State.observe_config : (s.observe d bytes).config = s.config := rfl
@[simp] theorem State.observe_mirror : (s.observe d bytes).mirror = s.mirror := rfl
@[simp] theorem State.observe_held : (s.observe d bytes).held = s.held := rfl
@[simp] theorem State.observe_answers : (s.observe d bytes).answers = s.answers := rfl
@[simp] theorem State.observe_calls : (s.observe d bytes).calls = s.calls := rfl
@[simp] theorem State.observe_observed :
    (s.observe d bytes).observed = bif s.config.observerPresent then s.observed ++ [⟨d, bytes⟩] else s.observed := rfl
@[simp] theorem State.observe_schedule : (s.observe d bytes).schedule = s.schedule := rfl
@[simp] theorem State.observe_reads : (s.observe d bytes).reads = s.reads := rfl
@[simp] theorem State.observe_writes : (s.observe d bytes).writes = s.writes := rfl
@[simp] theorem State.observe_picks : (s.observe d bytes).picks = s.picks := rfl
@[simp] theorem State.observe_draws : (s.observe d bytes).draws = s.draws := rfl
end observe

section accept
variable (r : Request)
@[simp] theorem State.accept_seq : (s.accept r).seq = .sent := rfl
@[simp] theorem State.accept_inSession : (s.accept r).inSession = s.inSession := rfl
@[simp] theorem State.accept_cur : (s.accept r).cur = some r := rfl
@[simp] theorem State.accept_rxbuf : (s.accept r).rxbuf = s.rxbuf := rfl
@[simp] theorem State.accept_attempts : (s.accept r).attempts = s.attempts := rfl
@[simp] theorem State.accept_reason : (s.accept r).reason = s.reason := rfl
@[simp] theorem State.accept_cancel : (s.accept r).cancel = s.cancel := rfl
@[simp] theorem State.accept_config : (s.accept r).config = s.config := rfl
@[simp] theorem State.accept_mirror : (s.accept r).mirror = s.mirror := rfl
@[simp] theorem State.accept_held : (s.accept r).held = s.held := rfl
@[simp] theorem State.accept_answers : (s.accept r).answers = s.answers := rfl
@[simp] theorem State.accept_calls : (s.accept r).calls = s.calls := rfl
@[simp] theorem State.accept_observed : (s.accept r).observed = s.observed := rfl
@[simp] theorem State.accept_schedule : (s.accept r).schedule = s.schedule := rfl
@[simp] theorem State.accept_reads : (s.accept r).reads = s.reads := rfl
@[simp] theorem State.accept_writes : (s.accept r).writes = s.writes := rfl
@[simp] theorem State.accept_picks : (s.accept r).picks = s.picks := rfl
@[simp] theorem State.accept_draws : (s.accept r).draws = s.draws := rfl
end accept

section hold
variable (r : Request)
@[simp] theorem State.hold_seq : (s.hold r).seq = s.seq := rfl
@[simp] theorem State.hold_inSession : (s.hold r).inSession = s.inSession := rfl
@[simp] theorem State.hold_cur : (s.hold r).cur = s.cur := rfl
@[simp] theorem State.hold_rxbuf : (s.hold r).rxbuf = s.rxbuf := rfl
@[simp] theorem State.hold_attempts : (s.hold r).attempts = s.attempts := rfl
@[simp] theorem State.hold_reason : (s.hold r).reason = s.reason := rfl
@[simp] theorem State.hold_cancel : (s.hold r).cancel = s.cancel := rfl
@[simp] theorem State.hold_config : (s.hold r).config = s.config := rfl
@[simp] theorem State.hold_mirror : (s.hold r).mirror = s.mirror := rfl
@[simp] theorem State.hold_held : (s.hold r).held = s.held ++ [r] := rfl
@[simp] theorem State.hold_answers : (s.hold r).answers = s.answers := rfl
@[simp] theorem State.hold_calls : (s.hold r).calls = s.calls := rfl
@[simp] theorem State.hold_observed : (s.hold r).observed = s.observed := rfl
@[simp] theorem State.hold_schedule : (s.hold r).schedule = s.schedule := rfl
@[simp] theorem State.hold_reads : (s.hold r).reads = s.reads := rfl
@[simp] theorem State.hold_writes : (s.hold r).writes = s.writes := rfl
@[simp] theorem State.hold_picks : (s.hold r).picks = s.picks := rfl
@[simp] theorem State.hold_draws : (s.hold r).draws = s.draws := rfl
end hold

section chanWrite
variable (bytes : List Byte)
@[simp] theorem State.chanWrite_seq : (s.chanWrite bytes).seq = s.seq := rfl
@[simp] theorem State.chanWrite_inSession : (s.chanWrite bytes).inSession = s.inSession := rfl
@[simp] theorem State.chanWrite_cur : (s.chanWrite bytes).cur = s.cur := rfl
@[simp] theorem State.chanWrite_rxbuf : (s.chanWrite bytes).rxbuf = s.rxbuf := rfl
@[simp] theorem State.chanWrite_attempts : (s.chanWrite bytes).attempts = s.attempts := rfl
@[simp] theorem State.chanWrite_reason : (s.chanWrite bytes).reason = s.reason := rfl
@[simp] theorem State.chanWrite_cancel : (s.chanWrite bytes).cancel = s.cancel := rfl
@[simp] theorem State.chanWrite_config : (s.chanWrite bytes).config = s.config := rfl
@[simp] theorem State.chanWrite_mirror : (s.chanWrite bytes).mirror = s.mirror := rfl
@[simp] theorem State.chanWrite_held : (s.chanWrite bytes).held = s.held := rfl
@[simp] theorem State.chanWrite_answers : (s.chanWrite bytes).answers = s.answers := rfl
@[simp] theorem State.chanWrite_calls : (s.chanWrite bytes).calls = s.calls ++ [.write bytes s.nextWrite] := rfl
@[simp] theorem State.chanWrite_observed : (s.chanWrite bytes).observed = s.observed := rfl
@[simp] theorem State.chanWrite_schedule : (s.chanWrite bytes).schedule = s.schedule := rfl
@[simp] theorem State.chanWrite_reads : (s.chanWrite bytes).reads = s.reads := rfl
@[simp] theorem State.chanWrite_writes : (s.chanWrite bytes).writes = s.writes.tail := rfl
@[simp] theorem State.chanWrite_picks : (s.chanWrite bytes).picks = s.picks := rfl
@[simp] theorem State.chanWrite_draws :
    (s.chanWrite bytes).draws = drawsAfter s.writes s.draws := rfl
end chanWrite

section chanRead
@[simp] theorem State.chanRead_seq : (s.chanRead).seq = s.seq := rfl
@[simp] theorem State.chanRead_inSession : (s.chanRead).inSession = s.inSession := rfl
@[simp] theorem State.chanRead_cur : (s.chanRead).cur = s.cur := rfl
@[simp] theorem State.chanRead_rxbuf : (s.chanRead).rxbuf = s.rxbuf := rfl
@[simp] theorem State.chanRead_attempts : (s.chanRead).attempts = s.attempts := rfl
@[simp] theorem State.chanRead_reason : (s.chanRead).reason = s.reason := rfl
@[simp] theorem State.chanRead_cancel : (s.chanRead).cancel = s.cancel := rfl
@[simp] theorem State.chanRead_config : (s.chanRead).config = s.config := rfl
@[simp] theorem State.chanRead_mirror : (s.chanRead).mirror = s.mirror := rfl
@[simp] theorem State.chanRead_held : (s.chanRead).held = s.held := rfl
@[simp] theorem State.chanRead_answers : (s.chanRead).answers = s.answers := rfl
@[simp] theorem State.chanRead_calls : (s.chanRead).calls = s.calls ++ [.read s.nextRead] := rfl
@[simp] theorem State.chanRead_observed : (s.chanRead).observed = s.observed := rfl
@[simp] theorem State.chanRead_schedule : (s.chanRead).schedule = s.schedule := rfl
@[simp] theorem State.chanRead_reads : (s.chanRead).reads = s.reads.tail := rfl
@[simp] theorem State.chanRead_writes : (s.chanRead).writes = s.writes := rfl
@[simp] theorem State.chanRead_picks : (s.chanRead).picks = s.picks := rfl
@[simp] theorem State.chanRead_draws : (s.chanRead).draws = drawsAfter s.reads s.draws := rfl
end chanRead

section unhold
variable (k : Nat)
@[simp] theorem State.unhold_seq : (s.unhold k).seq = s.seq := rfl
@[simp] theorem State.unhold_inSession : (s.unhold k).inSession = s.inSession := rfl
@[simp] theorem State.unhold_cur : (s.unhold k).cur = s.cur := rfl
@[simp] theorem State.unhold_rxbuf : (s.unhold k).rxbuf = s.rxbuf := rfl
@[simp] theorem State.unhold_attempts : (s.unhold k).attempts = s.attempts := rfl
@[simp] theorem State.unhold_reason : (s.unhold k).reason = s.reason := rfl
@[simp] theorem State.unhold_cancel : (s.unhold k).cancel = s.cancel := rfl
@[simp] theorem State.unhold_config : (s.unhold k).config = s.config := rfl
@[simp] theorem State.unhold_mirror : (s.unhold k).mirror = s.mirror := rfl
@[simp] theorem State.unhold_held : (s.unhold k).held = s.held.eraseIdx k := rfl
@[simp] theorem State.unhold_answers : (s.unhold k).answers = s.answers := rfl
@[simp] theorem State.unhold_calls : (s.unhold k).calls = s.calls := rfl
@[simp] theorem State.unhold_observed : (s.unhold k).observed = s.observed := rfl
@[simp] theorem State.unhold_schedule : (s.unhold k).schedule = s.schedule := rfl
@[simp] theorem State.unhold_reads : (s.unhold k).reads = s.reads := rfl
@[simp] theorem State.unhold_writes : (s.unhold k).writes = s.writes := rfl
@[simp] theorem State.unhold_picks : (s.unhold k).picks = s.picks.tail := rfl
@[simp] theorem State.unhold_draws : (s.unhold k).draws = drawsAfter s.picks s.draws := rfl
end unhold

section finish
variable (r : Request) (code : Result)
@[simp] theorem State.finish_seq : (s.finish r code).seq = .idle := rfl
@[simp] theorem State.finish_inSession : (s.finish r code).inSession = s.inSession := rfl
@[simp] theorem State.finish_cur : (s.finish r code).cur = none := rfl
@[simp] theorem State.finish_rxbuf : (s.finish r code).rxbuf = [] := rfl
@[simp] theorem State.finish_attempts : (s.finish r code).attempts = 0 := rfl
@[simp] theorem State.finish_reason : (s.finish r code).reason = none := rfl
@[simp] theorem State.finish_cancel : (s.finish r code).cancel = s.cancel := rfl
@[simp] theorem State.finish_config : (s.finish r code).config = s.config := rfl
@[simp] theorem State.finish_mirror : (s.finish r code).mirror = s.mirror := rfl
@[simp] theorem State.finish_held : (s.finish r code).held = s.held := rfl
@[simp] theorem State.finish_answers : (s.finish r code).answers = s.answers ++ [⟨r.request, code, none⟩] := rfl
@[simp] theorem State.finish_calls : (s.finish r code).calls = s.calls := rfl
@[simp] theorem State.finish_observed : (s.finish r code).observed = s.observed := rfl
@[simp] theorem State.finish_schedule : (s.finish r code).schedule = s.schedule := rfl
@[simp] theorem State.finish_reads : (s.finish r code).reads = s.reads := rfl
@[simp] theorem State.finish_writes : (s.finish r code).writes = s.writes := rfl
@[simp] theorem State.finish_picks : (s.finish r code).picks = s.picks := rfl
@[simp] theorem State.finish_draws : (s.finish r code).draws = s.draws := rfl
end finish

section applyIfOk
variable (r : Request) (code : Result)
@[simp] theorem State.applyIfOk_seq : (s.applyIfOk r code).seq = s.seq := rfl
@[simp] theorem State.applyIfOk_inSession : (s.applyIfOk r code).inSession = s.inSession := rfl
@[simp] theorem State.applyIfOk_cur : (s.applyIfOk r code).cur = s.cur := rfl
@[simp] theorem State.applyIfOk_rxbuf : (s.applyIfOk r code).rxbuf = s.rxbuf := rfl
@[simp] theorem State.applyIfOk_attempts : (s.applyIfOk r code).attempts = s.attempts := rfl
@[simp] theorem State.applyIfOk_reason : (s.applyIfOk r code).reason = s.reason := rfl
@[simp] theorem State.applyIfOk_cancel : (s.applyIfOk r code).cancel = s.cancel := rfl
@[simp] theorem State.applyIfOk_config : (s.applyIfOk r code).config = s.config := rfl
@[simp] theorem State.applyIfOk_mirror :
    (s.applyIfOk r code).mirror = if code = .ok then applyTo r.request s.mirror else s.mirror := rfl
@[simp] theorem State.applyIfOk_held : (s.applyIfOk r code).held = s.held := rfl
@[simp] theorem State.applyIfOk_answers : (s.applyIfOk r code).answers = s.answers := rfl
@[simp] theorem State.applyIfOk_calls : (s.applyIfOk r code).calls = s.calls := rfl
@[simp] theorem State.applyIfOk_observed : (s.applyIfOk r code).observed = s.observed := rfl
@[simp] theorem State.applyIfOk_schedule : (s.applyIfOk r code).schedule = s.schedule := rfl
@[simp] theorem State.applyIfOk_reads : (s.applyIfOk r code).reads = s.reads := rfl
@[simp] theorem State.applyIfOk_writes : (s.applyIfOk r code).writes = s.writes := rfl
@[simp] theorem State.applyIfOk_picks : (s.applyIfOk r code).picks = s.picks := rfl
@[simp] theorem State.applyIfOk_draws : (s.applyIfOk r code).draws = s.draws := rfl
end applyIfOk

section beginCollect
@[simp] theorem State.beginCollect_seq : (s.beginCollect).seq = .awaitingByte := rfl
@[simp] theorem State.beginCollect_inSession : (s.beginCollect).inSession = s.inSession := rfl
@[simp] theorem State.beginCollect_cur : (s.beginCollect).cur = s.cur := rfl
@[simp] theorem State.beginCollect_rxbuf : (s.beginCollect).rxbuf = [] := rfl
@[simp] theorem State.beginCollect_attempts : (s.beginCollect).attempts = 0 := rfl
@[simp] theorem State.beginCollect_reason : (s.beginCollect).reason = s.reason := rfl
@[simp] theorem State.beginCollect_cancel : (s.beginCollect).cancel = s.cancel := rfl
@[simp] theorem State.beginCollect_config : (s.beginCollect).config = s.config := rfl
@[simp] theorem State.beginCollect_mirror : (s.beginCollect).mirror = s.mirror := rfl
@[simp] theorem State.beginCollect_held : (s.beginCollect).held = s.held := rfl
@[simp] theorem State.beginCollect_answers : (s.beginCollect).answers = s.answers := rfl
@[simp] theorem State.beginCollect_calls : (s.beginCollect).calls = s.calls := rfl
@[simp] theorem State.beginCollect_observed : (s.beginCollect).observed = s.observed := rfl
@[simp] theorem State.beginCollect_schedule : (s.beginCollect).schedule = s.schedule := rfl
@[simp] theorem State.beginCollect_reads : (s.beginCollect).reads = s.reads := rfl
@[simp] theorem State.beginCollect_writes : (s.beginCollect).writes = s.writes := rfl
@[simp] theorem State.beginCollect_picks : (s.beginCollect).picks = s.picks := rfl
@[simp] theorem State.beginCollect_draws : (s.beginCollect).draws = s.draws := rfl
end beginCollect

section endTimedOut
variable (why : Reason)
@[simp] theorem State.endTimedOut_seq : (s.endTimedOut why).seq = .timedOut := rfl
@[simp] theorem State.endTimedOut_inSession : (s.endTimedOut why).inSession = s.inSession := rfl
@[simp] theorem State.endTimedOut_cur : (s.endTimedOut why).cur = s.cur := rfl
@[simp] theorem State.endTimedOut_rxbuf : (s.endTimedOut why).rxbuf = s.rxbuf := rfl
@[simp] theorem State.endTimedOut_attempts : (s.endTimedOut why).attempts = s.attempts := rfl
@[simp] theorem State.endTimedOut_reason : (s.endTimedOut why).reason = some why := rfl
@[simp] theorem State.endTimedOut_cancel : (s.endTimedOut why).cancel = s.cancel := rfl
@[simp] theorem State.endTimedOut_config : (s.endTimedOut why).config = s.config := rfl
@[simp] theorem State.endTimedOut_mirror : (s.endTimedOut why).mirror = s.mirror := rfl
@[simp] theorem State.endTimedOut_held : (s.endTimedOut why).held = s.held := rfl
@[simp] theorem State.endTimedOut_answers : (s.endTimedOut why).answers = s.answers := rfl
@[simp] theorem State.endTimedOut_calls : (s.endTimedOut why).calls = s.calls := rfl
@[simp] theorem State.endTimedOut_observed : (s.endTimedOut why).observed = (s.observe .inbound s.rxbuf).observed := rfl
@[simp] theorem State.endTimedOut_schedule : (s.endTimedOut why).schedule = s.schedule := rfl
@[simp] theorem State.endTimedOut_reads : (s.endTimedOut why).reads = s.reads := rfl
@[simp] theorem State.endTimedOut_writes : (s.endTimedOut why).writes = s.writes := rfl
@[simp] theorem State.endTimedOut_picks : (s.endTimedOut why).picks = s.picks := rfl
@[simp] theorem State.endTimedOut_draws : (s.endTimedOut why).draws = s.draws := rfl
end endTimedOut

section endTerminated
@[simp] theorem State.endTerminated_seq : (s.endTerminated).seq = .gotTerminator := rfl
@[simp] theorem State.endTerminated_inSession : (s.endTerminated).inSession = s.inSession := rfl
@[simp] theorem State.endTerminated_cur : (s.endTerminated).cur = s.cur := rfl
@[simp] theorem State.endTerminated_rxbuf : (s.endTerminated).rxbuf = s.rxbuf := rfl
@[simp] theorem State.endTerminated_attempts : (s.endTerminated).attempts = s.attempts := rfl
@[simp] theorem State.endTerminated_reason : (s.endTerminated).reason = s.reason := rfl
@[simp] theorem State.endTerminated_cancel : (s.endTerminated).cancel = s.cancel := rfl
@[simp] theorem State.endTerminated_config : (s.endTerminated).config = s.config := rfl
@[simp] theorem State.endTerminated_mirror : (s.endTerminated).mirror = s.mirror := rfl
@[simp] theorem State.endTerminated_held : (s.endTerminated).held = s.held := rfl
@[simp] theorem State.endTerminated_answers : (s.endTerminated).answers = s.answers := rfl
@[simp] theorem State.endTerminated_calls : (s.endTerminated).calls = s.calls := rfl
@[simp] theorem State.endTerminated_observed : (s.endTerminated).observed = (s.observe .inbound s.rxbuf).observed := rfl
@[simp] theorem State.endTerminated_schedule : (s.endTerminated).schedule = s.schedule := rfl
@[simp] theorem State.endTerminated_reads : (s.endTerminated).reads = s.reads := rfl
@[simp] theorem State.endTerminated_writes : (s.endTerminated).writes = s.writes := rfl
@[simp] theorem State.endTerminated_picks : (s.endTerminated).picks = s.picks := rfl
@[simp] theorem State.endTerminated_draws : (s.endTerminated).draws = s.draws := rfl
end endTerminated

section attemptRead
@[simp] theorem State.attemptRead_seq : (s.attemptRead).seq = s.seq := rfl
@[simp] theorem State.attemptRead_inSession : (s.attemptRead).inSession = s.inSession := rfl
@[simp] theorem State.attemptRead_cur : (s.attemptRead).cur = s.cur := rfl
@[simp] theorem State.attemptRead_rxbuf : (s.attemptRead).rxbuf = s.rxbuf := rfl
@[simp] theorem State.attemptRead_attempts : (s.attemptRead).attempts = s.attempts + 1 := rfl
@[simp] theorem State.attemptRead_reason : (s.attemptRead).reason = s.reason := rfl
@[simp] theorem State.attemptRead_cancel : (s.attemptRead).cancel = s.cancel := rfl
@[simp] theorem State.attemptRead_config : (s.attemptRead).config = s.config := rfl
@[simp] theorem State.attemptRead_mirror : (s.attemptRead).mirror = s.mirror := rfl
@[simp] theorem State.attemptRead_held : (s.attemptRead).held = s.held := rfl
@[simp] theorem State.attemptRead_answers : (s.attemptRead).answers = s.answers := rfl
@[simp] theorem State.attemptRead_calls : (s.attemptRead).calls = s.calls ++ [.read s.nextRead] := rfl
@[simp] theorem State.attemptRead_observed : (s.attemptRead).observed = s.observed := rfl
@[simp] theorem State.attemptRead_schedule : (s.attemptRead).schedule = s.schedule := rfl
@[simp] theorem State.attemptRead_reads : (s.attemptRead).reads = s.reads.tail := rfl
@[simp] theorem State.attemptRead_writes : (s.attemptRead).writes = s.writes := rfl
@[simp] theorem State.attemptRead_picks : (s.attemptRead).picks = s.picks := rfl
@[simp] theorem State.attemptRead_draws : (s.attemptRead).draws = drawsAfter s.reads s.draws := rfl
end attemptRead

section pushByte
variable (b : Byte)
@[simp] theorem State.pushByte_seq : (s.pushByte b).seq = s.seq := rfl
@[simp] theorem State.pushByte_inSession : (s.pushByte b).inSession = s.inSession := rfl
@[simp] theorem State.pushByte_cur : (s.pushByte b).cur = s.cur := rfl
@[simp] theorem State.pushByte_rxbuf : (s.pushByte b).rxbuf = s.rxbuf ++ [b] := rfl
@[simp] theorem State.pushByte_attempts : (s.pushByte b).attempts = s.attempts := rfl
@[simp] theorem State.pushByte_reason : (s.pushByte b).reason = s.reason := rfl
@[simp] theorem State.pushByte_cancel : (s.pushByte b).cancel = s.cancel := rfl
@[simp] theorem State.pushByte_config : (s.pushByte b).config = s.config := rfl
@[simp] theorem State.pushByte_mirror : (s.pushByte b).mirror = s.mirror := rfl
@[simp] theorem State.pushByte_held : (s.pushByte b).held = s.held := rfl
@[simp] theorem State.pushByte_answers : (s.pushByte b).answers = s.answers := rfl
@[simp] theorem State.pushByte_calls : (s.pushByte b).calls = s.calls := rfl
@[simp] theorem State.pushByte_observed : (s.pushByte b).observed = s.observed := rfl
@[simp] theorem State.pushByte_schedule : (s.pushByte b).schedule = s.schedule := rfl
@[simp] theorem State.pushByte_reads : (s.pushByte b).reads = s.reads := rfl
@[simp] theorem State.pushByte_writes : (s.pushByte b).writes = s.writes := rfl
@[simp] theorem State.pushByte_picks : (s.pushByte b).picks = s.picks := rfl
@[simp] theorem State.pushByte_draws : (s.pushByte b).draws = s.draws := rfl
end pushByte

section setCancel
variable (level : Bool)
@[simp] theorem State.setCancel_seq : (s.setCancel level).seq = s.seq := rfl
@[simp] theorem State.setCancel_inSession : (s.setCancel level).inSession = s.inSession := rfl
@[simp] theorem State.setCancel_cur : (s.setCancel level).cur = s.cur := rfl
@[simp] theorem State.setCancel_rxbuf : (s.setCancel level).rxbuf = s.rxbuf := rfl
@[simp] theorem State.setCancel_attempts : (s.setCancel level).attempts = s.attempts := rfl
@[simp] theorem State.setCancel_reason : (s.setCancel level).reason = s.reason := rfl
@[simp] theorem State.setCancel_cancel : (s.setCancel level).cancel = level := rfl
@[simp] theorem State.setCancel_config : (s.setCancel level).config = s.config := rfl
@[simp] theorem State.setCancel_mirror : (s.setCancel level).mirror = s.mirror := rfl
@[simp] theorem State.setCancel_held : (s.setCancel level).held = s.held := rfl
@[simp] theorem State.setCancel_answers : (s.setCancel level).answers = s.answers := rfl
@[simp] theorem State.setCancel_calls : (s.setCancel level).calls = s.calls := rfl
@[simp] theorem State.setCancel_observed : (s.setCancel level).observed = s.observed := rfl
@[simp] theorem State.setCancel_schedule : (s.setCancel level).schedule = s.schedule := rfl
@[simp] theorem State.setCancel_reads : (s.setCancel level).reads = s.reads := rfl
@[simp] theorem State.setCancel_writes : (s.setCancel level).writes = s.writes := rfl
@[simp] theorem State.setCancel_picks : (s.setCancel level).picks = s.picks := rfl
@[simp] theorem State.setCancel_draws : (s.setCancel level).draws = s.draws := rfl
end setCancel

section takeEvent
variable (rest : List Event)
@[simp] theorem State.takeEvent_seq : (s.takeEvent rest).seq = s.seq := rfl
@[simp] theorem State.takeEvent_inSession : (s.takeEvent rest).inSession = s.inSession := rfl
@[simp] theorem State.takeEvent_cur : (s.takeEvent rest).cur = s.cur := rfl
@[simp] theorem State.takeEvent_rxbuf : (s.takeEvent rest).rxbuf = s.rxbuf := rfl
@[simp] theorem State.takeEvent_attempts : (s.takeEvent rest).attempts = s.attempts := rfl
@[simp] theorem State.takeEvent_reason : (s.takeEvent rest).reason = s.reason := rfl
@[simp] theorem State.takeEvent_cancel : (s.takeEvent rest).cancel = s.cancel := rfl
@[simp] theorem State.takeEvent_config : (s.takeEvent rest).config = s.config := rfl
@[simp] theorem State.takeEvent_mirror : (s.takeEvent rest).mirror = s.mirror := rfl
@[simp] theorem State.takeEvent_held : (s.takeEvent rest).held = s.held := rfl
@[simp] theorem State.takeEvent_answers : (s.takeEvent rest).answers = s.answers := rfl
@[simp] theorem State.takeEvent_calls : (s.takeEvent rest).calls = s.calls := rfl
@[simp] theorem State.takeEvent_observed : (s.takeEvent rest).observed = s.observed := rfl
@[simp] theorem State.takeEvent_schedule : (s.takeEvent rest).schedule = rest := rfl
@[simp] theorem State.takeEvent_reads : (s.takeEvent rest).reads = s.reads := rfl
@[simp] theorem State.takeEvent_writes : (s.takeEvent rest).writes = s.writes := rfl
@[simp] theorem State.takeEvent_picks : (s.takeEvent rest).picks = s.picks := rfl
@[simp] theorem State.takeEvent_draws : (s.takeEvent rest).draws = s.draws := rfl
end takeEvent

section closeChannel
@[simp] theorem State.closeChannel_seq : (s.closeChannel).seq = s.seq := rfl
@[simp] theorem State.closeChannel_cur : (s.closeChannel).cur = s.cur := rfl
@[simp] theorem State.closeChannel_rxbuf : (s.closeChannel).rxbuf = s.rxbuf := rfl
@[simp] theorem State.closeChannel_attempts : (s.closeChannel).attempts = s.attempts := rfl
@[simp] theorem State.closeChannel_reason : (s.closeChannel).reason = s.reason := rfl
@[simp] theorem State.closeChannel_inSession : (s.closeChannel).inSession = false := rfl
@[simp] theorem State.closeChannel_cancel : (s.closeChannel).cancel = s.cancel := rfl
@[simp] theorem State.closeChannel_config : (s.closeChannel).config = s.config := rfl
@[simp] theorem State.closeChannel_mirror : (s.closeChannel).mirror = s.mirror := rfl
@[simp] theorem State.closeChannel_held : (s.closeChannel).held = [] := rfl
@[simp] theorem State.closeChannel_answers : (s.closeChannel).answers = s.answers := rfl
@[simp] theorem State.closeChannel_calls : (s.closeChannel).calls = s.calls ++ [.closed] := rfl
@[simp] theorem State.closeChannel_observed : (s.closeChannel).observed = s.observed := rfl
@[simp] theorem State.closeChannel_schedule : (s.closeChannel).schedule = s.schedule := rfl
@[simp] theorem State.closeChannel_reads : (s.closeChannel).reads = s.reads := rfl
@[simp] theorem State.closeChannel_writes : (s.closeChannel).writes = s.writes := rfl
@[simp] theorem State.closeChannel_picks : (s.closeChannel).picks = s.picks := rfl
@[simp] theorem State.closeChannel_draws : (s.closeChannel).draws = s.draws := rfl
end closeChannel

section openChannel
variable (setup : SessionSetup) (b : Baud)
@[simp] theorem State.openChannel_seq : (s.openChannel setup b).seq =
    if setup.openSucceeds then .idle else .closed := rfl
@[simp] theorem State.openChannel_cur : (s.openChannel setup b).cur = none := rfl
@[simp] theorem State.openChannel_rxbuf : (s.openChannel setup b).rxbuf = [] := rfl
@[simp] theorem State.openChannel_attempts : (s.openChannel setup b).attempts = 0 := rfl
@[simp] theorem State.openChannel_reason : (s.openChannel setup b).reason = none := rfl
@[simp] theorem State.openChannel_inSession : (s.openChannel setup b).inSession = true := rfl
@[simp] theorem State.openChannel_cancel : (s.openChannel setup b).cancel = s.cancel := rfl
@[simp] theorem State.openChannel_config : (s.openChannel setup b).config = setup.configuration b := rfl
@[simp] theorem State.openChannel_mirror : (s.openChannel setup b).mirror = setup.init := rfl
@[simp] theorem State.openChannel_held : (s.openChannel setup b).held = s.held := rfl
@[simp] theorem State.openChannel_answers : (s.openChannel setup b).answers = s.answers := rfl
@[simp] theorem State.openChannel_calls : (s.openChannel setup b).calls =
    s.calls ++ [.opened (setup.configuration b) setup.openSucceeds] := rfl
@[simp] theorem State.openChannel_observed : (s.openChannel setup b).observed = s.observed := rfl
@[simp] theorem State.openChannel_schedule : (s.openChannel setup b).schedule = s.schedule := rfl
@[simp] theorem State.openChannel_reads : (s.openChannel setup b).reads = s.reads := rfl
@[simp] theorem State.openChannel_writes : (s.openChannel setup b).writes = s.writes := rfl
@[simp] theorem State.openChannel_picks : (s.openChannel setup b).picks = s.picks := rfl
@[simp] theorem State.openChannel_draws : (s.openChannel setup b).draws = s.draws := rfl
end openChannel

end Sys2Proof.Machine
end

