-- ==== Sys2Proof/Laws/Port.lean ====
section
/-! SUPPORT. The request port: every wire operation is `presentWire` of its request record, and what `presentWire` and
`exec` can answer, said once. -/

namespace Sys2Proof.Machine

/-- A wire operation on the port is `presentWire` of the record it builds, valid when its arguments are in range. -/
theorem exec_of_requestOf {i : Instr} {s : State} {r : Request} (h : requestOf s.config.baud i = some r) :
    exec i s = presentWire r i.wellFormed s := by
  cases i <;> first | (obtain rfl := Option.some.inj h; rfl) | cases h

/-- A request record carries the operation that built it. -/
theorem requestOf_request {b : Baud} {i : Instr} {r : Request} (h : requestOf b i = some r) : r.request = i := by
  cases i <;> first | (obtain rfl := Option.some.inj h; rfl) | cases h

/-- Every wire operation builds a request record. -/
theorem requestOf_of_isWire (b : Baud) {i : Instr} (h : i.isWire = true) : ∃ r, requestOf b i = some r := by
  cases i <;> first | exact ⟨_, rfl⟩ | cases h

/-- Everything the port can do with a wire request (R161). -/
theorem presentWire_cases (r : Request) (valid : Bool) (s : State) :
    (s.seq = .closed ∧ presentWire r valid s = .next (s.answer r.request .connectError none)) ∨
    (s.seq ≠ .closed ∧ valid = false ∧ presentWire r valid s = .next (s.answer r.request .invalidArgument none)) ∨
    (s.seq.inFlight = true ∧ valid = true ∧ s.config.busyPolicy = .reject ∧
      presentWire r valid s = .next (s.answer r.request .busy none)) ∨
    (s.seq.inFlight = true ∧ valid = true ∧ s.config.busyPolicy = .block ∧ presentWire r valid s = .next (s.hold r)) ∨
    (s.seq = .idle ∧ valid = true ∧ presentWire r valid s = .next (s.accept r)) := by
  unfold presentWire presentBusy
  cases hq : s.seq <;> cases valid <;> cases hp : s.config.busyPolicy <;> simp [Seq.inFlight]

/-- Everything an operation on the port can do: an answer that changes nothing else, a hold, or an accept. -/
theorem exec_cases (i : Instr) (s : State) :
    (∃ code snap, exec i s = .next (s.answer i code snap) ∧ (code = .busy → s.config.busyPolicy = .reject) ∧
      code ≠ .notAcknowledged ∧ (code ≠ .connectError → s.seq ≠ .closed)) ∨
    (∃ r, requestOf s.config.baud i = some r ∧ i.wellFormed = true ∧ s.seq.inFlight = true ∧
      s.config.busyPolicy = .block ∧ exec i s = .next (s.hold r)) ∨
    (∃ r, requestOf s.config.baud i = some r ∧ i.wellFormed = true ∧ s.seq = .idle ∧ exec i s = .next (s.accept r)) := by
  cases hr : requestOf s.config.baud i with
  | none =>
    have hi : i = .readState := by cases i <;> first | rfl | cases hr
    subst hi
    left
    by_cases hc : s.seq = .closed
    · exact ⟨.connectError, none, by simp [exec, execReadState, hc], by simp, by simp, by simp⟩
    · exact ⟨.ok, some s.mirror, by simp [exec, execReadState, hc], by simp, by simp, fun _ => hc⟩
  | some r =>
    have hq := requestOf_request hr
    rw [exec_of_requestOf hr]
    rcases presentWire_cases r i.wellFormed s with h | h | h | h | h
    · exact .inl ⟨_, _, hq ▸ h.2, by simp, by simp, by simp⟩
    · exact .inl ⟨_, _, hq ▸ h.2.2, by simp, by simp, fun _ => h.1⟩
    · exact .inl ⟨_, _, hq ▸ h.2.2.2, fun _ => h.2.2.1, by simp, fun _ hc => by simp [hc, Seq.inFlight] at h⟩
    · exact .inr (.inl ⟨r, rfl, h.2.1, h.1, h.2.2.1, h.2.2.2⟩)
    · exact .inr (.inr ⟨r, rfl, h.2.1, h.1, h.2.2⟩)

end Sys2Proof.Machine
end

