-- ==== Sys2Proof/Laws/Sequencer.lean ====
section
/-! SUPPORT. The sequencer's own step, the channel calls and the outside's events: what each can do, said once, so that
an invariant is proved case by case without unfolding the step. -/

namespace Sys2Proof.Machine

/-! What the channel and the free choices answer next does not depend on the events, on CANCEL or on the observer. -/

@[simp] theorem State.takeEvent_nextRead (s : State) (rest : List Event) : (s.takeEvent rest).nextRead = s.nextRead := rfl
@[simp] theorem State.takeEvent_nextWrite (s : State) (rest : List Event) :
    (s.takeEvent rest).nextWrite = s.nextWrite := rfl
@[simp] theorem State.takeEvent_nextPick (s : State) (rest : List Event) : (s.takeEvent rest).nextPick = s.nextPick := rfl
@[simp] theorem State.setCancel_nextRead (s : State) (level : Bool) : (s.setCancel level).nextRead = s.nextRead := rfl
@[simp] theorem State.setCancel_nextWrite (s : State) (level : Bool) : (s.setCancel level).nextWrite = s.nextWrite := rfl
@[simp] theorem State.setCancel_nextPick (s : State) (level : Bool) : (s.setCancel level).nextPick = s.nextPick := rfl
@[simp] theorem State.observe_nextWrite (s : State) (d : Direction) (bytes : List Byte) :
    (s.observe d bytes).nextWrite = s.nextWrite := rfl

/-- Taking no event from an empty schedule leaves the state. -/
theorem State.takeEvent_self {s : State} (h : s.schedule = []) : s.takeEvent [] = s := by
  cases s; simp_all [State.takeEvent]

/-- The phase after one more channel call. -/
theorem phaseAfter_snoc (calls : List ChanCall) (c : ChanCall) :
    phaseAfter (calls ++ [c]) = (phaseAfter calls).bind fun q => q.next c := by
  simp [phaseAfter]

/-- Everything one pass of COLLECT can do (R140). -/
theorem collectPass_cases (r : Request) (s : State) :
    (s.cancel = true ∧ collectPass r s = s.endTimedOut .cancelled) ∨
    (s.cancel = false ∧ s.attempts = s.config.maxReadAttempts ∧ collectPass r s = s.endTimedOut .exhausted) ∨
    (s.cancel = false ∧ s.attempts ≠ s.config.maxReadAttempts ∧
      ((s.nextRead = .ioError ∧ collectPass r s = (s.attemptRead.observe .inbound s.rxbuf).finish r .ioError) ∨
       (s.nextRead = .silent ∧ collectPass r s = s.attemptRead.endTimedOut .silent) ∨
       (s.nextRead = .byte terminatorByte ∧ collectPass r s = (s.attemptRead.pushByte terminatorByte).endTerminated) ∨
       (∃ b, b ≠ terminatorByte ∧ s.nextRead = .byte b ∧ collectPass r s = s.attemptRead.pushByte b))) := by
  cases hc : s.cancel with
  | true => exact .inl ⟨rfl, by simp [collectPass, hc]⟩
  | false =>
    right
    by_cases ha : s.attempts = s.config.maxReadAttempts
    · exact .inl ⟨rfl, ha, by simp [collectPass, hc, ha]⟩
    refine .inr ⟨rfl, ha, ?_⟩
    cases hr : s.nextRead with
    | ioError => exact .inl ⟨rfl, by simp [collectPass, hc, ha, hr]⟩
    | silent => exact .inr (.inl ⟨rfl, by simp [collectPass, hc, ha, hr]⟩)
    | byte b =>
      by_cases hb : b = terminatorByte
      · subst hb
        exact .inr (.inr (.inl ⟨rfl, by simp [collectPass, hc, ha, hr]⟩))
      · exact .inr (.inr (.inr ⟨b, hb, rfl, by simp [collectPass, hc, ha, hr, hb]⟩))

/-- Everything the write step can do (R164, R165). -/
theorem writeStep_cases (r : Request) (s : State) :
    (s.nextWrite = .ok ∧ writeStep r s = ((s.observe .outbound r.out).chanWrite r.out).beginCollect) ∨
    (∃ k, s.nextWrite = .ioError k ∧
      writeStep r s = ((s.observe .outbound r.out).chanWrite r.out).finish r .ioError) := by
  cases h : s.nextWrite with
  | ok => exact .inl ⟨rfl, by simp [writeStep, h]⟩
  | ioError k => exact .inr ⟨k, rfl, by simp [writeStep, h]⟩

/-- Everything the sequencer does in IDLE of its own (R163). -/
theorem serveHeld_cases (s : State) :
    (s.held = [] ∧ serveHeld s = s) ∨
    (∃ k r, k < s.held.length ∧ s.held[k]? = some r ∧ serveHeld s = (s.unhold k).accept r) := by
  by_cases hh : s.held = []
  · exact .inl ⟨hh, by simp [serveHeld, hh]⟩
  · have hk : s.nextPick % s.held.length < s.held.length := Nat.mod_lt _ (List.length_pos_iff.mpr hh)
    obtain ⟨r, hr⟩ : ∃ r, s.held[s.nextPick % s.held.length]? = some r := ⟨_, List.getElem?_eq_getElem hk⟩
    exact .inr ⟨_, r, hk, hr, by simp [serveHeld, hr]⟩

/-- Everything the sequencer's own step can do when it answers a next state (R160). -/
theorem advance_cases {s t : State} (h : advance s = .next t) :
    (s.seq = .closed ∧ t = s) ∨
    (s.seq = .idle ∧ t = serveHeld s) ∨
    (∃ r, s.cur = some r ∧ s.seq = .sent ∧ t = writeStep r s) ∨
    (∃ r, s.cur = some r ∧ s.seq = .awaitingByte ∧ t = collectPass r s) ∨
    (∃ r, s.cur = some r ∧ s.seq = .gotTerminator ∧
      t = complete r (resultOf r (resultOfFrame s.config.ackPredicate r.command s.rxbuf)) s) ∨
    (∃ r why, s.cur = some r ∧ s.seq = .timedOut ∧ s.reason = some why ∧
      t = complete r (resultOf r (resultOfTimeout why s.rxbuf)) s) := by
  unfold advance withCurrent at h
  cases hq : s.seq <;> cases hr : s.cur <;> cases hy : s.reason <;> simp_all

/-- Everything the end of a session can do when it answers a next state (R254). -/
theorem endSession_cases {s t : State} (h : endSession s = .next t) :
    s.seq.inFlight = false ∧ s.inSession = true ∧ t = s.closeChannel := by
  unfold endSession at h
  cases hq : s.seq.inFlight <;> cases hs : s.inSession <;> simp_all

/-- Everything a bring-up can do when it answers a next state (R250). -/
theorem bringUp_cases {setup : SessionSetup} {s t : State} (h : bringUp setup s = .next t) :
    s.inSession = false ∧ ∃ b, baudOfNat setup.baud = some b ∧ 1 ≤ setup.maxReadAttempts ∧
      setup.init.legal = true ∧ t = s.openChannel setup b := by
  unfold bringUp at h
  cases hs : s.inSession with
  | true => simp [hs] at h
  | false =>
    simp only [hs] at h
    cases hb : baudOfNat setup.baud with
    | none => simp [hb] at h
    | some b =>
      simp only [hb] at h
      split at h
      · cases h
      · split at h
        · cases h
        · rename_i hm hl
          exact ⟨rfl, b, rfl, by omega, by simpa using hl, by cases h; rfl⟩

/-- A request that has a next state found a session, and the port served it. -/
theorem present_cases {i : Instr} {s t : State} (h : present i s = .next t) : s.inSession = true ∧ exec i s = .next t := by
  unfold present at h
  cases hs : s.inSession <;> simp_all

/-- Everything a step can do when it answers a next state: the block's own step, an operation on the port, CANCEL, the end
of a session, or a bring-up, each from the state with its event taken. -/
theorem step_cases {s t : State} (h : step s = .next t) :
    ((s.schedule = [] ∨ ∃ rest, s.schedule = .advance :: rest) ∧ advance (s.takeEvent s.schedule.tail) = .next t) ∨
    (∃ i rest, s.schedule = .request i :: rest ∧ s.inSession = true ∧ exec i (s.takeEvent rest) = .next t) ∨
    (∃ level rest, s.schedule = .cancel level :: rest ∧ t = (s.takeEvent rest).setCancel level) ∨
    (∃ rest, s.schedule = .endSession :: rest ∧ s.seq.inFlight = false ∧ s.inSession = true ∧
      t = (s.takeEvent rest).closeChannel) ∨
    (∃ setup rest b, s.schedule = .bringUp setup :: rest ∧ s.inSession = false ∧ baudOfNat setup.baud = some b ∧
      1 ≤ setup.maxReadAttempts ∧ setup.init.legal = true ∧ t = (s.takeEvent rest).openChannel setup b) := by
  unfold step at h
  cases hs : s.schedule with
  | nil => exact .inl ⟨.inl rfl, by simpa [hs, State.takeEvent_self hs] using h⟩
  | cons e rest =>
    rw [hs] at h
    cases e with
    | request i => exact .inr (.inl ⟨i, rest, rfl, present_cases h⟩)
    | cancel level => exact .inr (.inr (.inl ⟨level, rest, rfl, by simpa [handle] using h.symm⟩))
    | advance => exact .inl ⟨.inr ⟨rest, rfl⟩, by simpa [handle] using h⟩
    | endSession => exact .inr (.inr (.inr (.inl ⟨rest, rfl, endSession_cases h⟩)))
    | bringUp setup =>
      obtain ⟨hi, b, hb, hm, hl, ht⟩ := bringUp_cases h
      exact .inr (.inr (.inr (.inr ⟨setup, rest, b, rfl, hi, hb, hm, hl, ht⟩)))

/-- With nothing waiting outside, a step is the sequencer's own. -/
theorem step_of_no_event {s : State} (h : s.schedule = []) : step s = advance s := by
  simp [step, h]

end Sys2Proof.Machine
end

