-- ==== Sys2Proof/Laws/Run.lean ====
section
/-! SUPPORT. Runs of several steps: one step more, the host's own run, and a run of COLLECT over bytes that do not end it. -/

namespace Sys2Proof.Machine

@[simp] theorem runSteps_zero (s : State) : runSteps 0 s = .next s := rfl

/-- A run that makes a step and then `k` more. -/
theorem runSteps_succ {k : Nat} {s t : State} (h : step s = .next t) : runSteps (k + 1) s = runSteps k t := by
  simp [runSteps, h]

/-- The host's run of the machine is `runSteps`. -/
theorem core_run_eq (k : Nat) (s : State) : Host.Core.run Sys2Proof.core k s = runSteps k s := by
  induction k generalizing s with
  | zero => rfl
  | succ k ih =>
    cases h : step s with
    | next t =>
      have h' : core.step s = .next t := h
      rw [runSteps_succ h, ← ih t]
      simp only [Host.Core.run, h']
    | fault f =>
      have h' : core.step s = .fault f := h
      simp only [Host.Core.run, h', runSteps, h]
      rfl
    | refused r =>
      have h' : core.step s = .refused r := h
      simp only [Host.Core.run, h', runSteps, h]
      rfl

/-- The state after COLLECT read these bytes, none of them a terminator. -/
def State.collected (s : State) (bytes : List Byte) : State :=
  { s with rxbuf := s.rxbuf ++ bytes, attempts := s.attempts + bytes.length, reads := s.reads.drop bytes.length
           calls := s.calls ++ bytes.map fun b => .read (.byte b) }

/-- Left alone and not cancelled, COLLECT reads bytes that are no terminator one a step, as far as the bound allows. -/
theorem runSteps_collected {r : Request} (bytes : List Byte) (s : State) (rest : List ReadAnswer) (k : Nat)
    (hsched : s.schedule = []) (hseq : s.seq = .awaitingByte) (hcur : s.cur = some r) (hcancel : s.cancel = false)
    (hreads : s.reads = bytes.map .byte ++ rest) (hterm : terminatorByte ∉ bytes)
    (hbound : s.attempts + bytes.length ≤ s.config.maxReadAttempts) :
    runSteps (bytes.length + k) s = runSteps k (s.collected bytes) := by
  induction bytes generalizing s with
  | nil => simp [State.collected]
  | cons b bs ih =>
    simp only [List.mem_cons, not_or] at hterm
    simp only [List.length_cons] at hbound
    have hstep : step s = .next (s.attemptRead.pushByte b) := by
      have hn : s.nextRead = .byte b := by simp [State.nextRead, hreads]
      have hb : b ≠ terminatorByte := fun e => hterm.1 e.symm
      have ha : s.attempts ≠ s.config.maxReadAttempts := by omega
      simp [step_of_no_event hsched, advance, hseq, withCurrent, hcur, collectPass, hcancel, ha, hn, hb]
    have hlen : (b :: bs).length + k = (bs.length + k) + 1 := by simp only [List.length_cons]; omega
    rw [hlen, runSteps_succ hstep, ih _ (by simpa) (by simpa) (by simpa) (by simpa) (by simp [hreads]) hterm.2
      (by simp; omega)]
    congr 1
    simp [State.collected, State.attemptRead, State.pushByte, State.chanRead, hreads, drawsAfter, State.nextRead]
    omega

end Sys2Proof.Machine
end

