-- ==== Sys2Proof/Tests/Slice0.lean ====
section
/-! SUPPORT. Tests: expected values are those of spec/95_test_vectors.md (its numbers S, E, D, C, M, V stand at each test) or
are written out by hand from the rule named. Then, for each statement that has hypotheses, a state and operands that meet them. -/

namespace Sys2Proof.Tests

open Sys2Proof Sys2Proof.Machine

/-! ### Small states -/

/-- A mirror with every field at a value the tests can see change. -/
def mirror0 : RadioState where
  memoryNum := 7
  memoryBank := 4
  transmitting := true
  dataMode := false
  passive := { frequency := 0, mode := [], powerFrac := 0, swrMeter := 0, signalMeter := 0
               externalSpeakerActive := false, backlightFrac := 0 }

/-- IDLE, under REJECT. -/
def idle : State := { State.reset with mirror := mirror0 }

/-- A request accepted, its write to come. -/
def sent (r : Request) (writes : List WriteAnswer) : State := { idle with seq := .sent, cur := some r, writes := writes }

/-- Waiting for a byte with `rx` read so far. -/
def waiting (r : Request) (rx : List Byte) (reads : List ReadAnswer) : State :=
  { idle with seq := .awaitingByte, cur := some r, rxbuf := rx, attempts := rx.length, reads := reads }

/-- A terminated response collected. -/
def terminated (r : Request) (rx : List Byte) : State :=
  { idle with seq := .gotTerminator, cur := some r, rxbuf := rx, attempts := rx.length }

/-- COLLECT ended without a terminator. -/
def timedOut (r : Request) (why : Reason) (rx : List Byte) : State :=
  { idle with seq := .timedOut, cur := some r, rxbuf := rx, attempts := rx.length, reason := some why }

/-- CLOSED. -/
def closed : State := { idle with seq := .closed, calls := [.opened defaultConfiguration false] }

/-- The session that stands in `s` has ended. -/
def ended (s : State) : State := { s with inSession := false, calls := s.calls ++ [.closed] }

/-- The same state under BLOCK. -/
def blocking (s : State) : State := { s with config := { s.config with busyPolicy := .block } }

/-- The same state with ACK_PREDICATE "the response's command number is FB" (vectors M7 and M8). -/
def judging (s : State) : State := { s with config := { s.config with ackPredicate := .cmdNumIs 0xFB } }

/-- The same state with this event waiting. -/
def facing (s : State) (e : Event) : State := { s with schedule := [e] }

/-- A setup at this rate. -/
def setup (baud : Nat) (opens : Bool) : SessionSetup where
  baud := baud
  maxReadAttempts := 1
  busyPolicy := .block
  ackPredicate := .acceptAll
  observerPresent := false
  init := mirror0
  openSucceeds := opens

/-- What is seen of a next state. -/
def seen {α : Type} (f : State → α) : Outcome → Option α
  | .next t => some (f t)
  | .fault _ => none
  | .refused _ => none

/-- The codes answered. -/
def codes (s : State) : List Result := s.answers.map Answer.code

/-- The vocabulary's confirming response of the vectors, FE FE E0 88 FB FD. -/
def fb : List Byte := [0xFE, 0xFE, 0xE0, 0x88, 0xFB, 0xFD]

/-! ### WellFormed -/

/-- S2, V7, V10: the ends of GOTO_MEMORY's range and what lies outside it. -/
theorem test_gotoMemory_range : Instr.wellFormed (.gotoMemory 1) = true ∧ Instr.wellFormed (.gotoMemory 100) = true ∧
    Instr.wellFormed (.gotoMemory 0) = false ∧ Instr.wellFormed (.gotoMemory 101) = false ∧
    Instr.wellFormed (.gotoMemory (-1)) = false ∧ Instr.wellFormed (.gotoMemory 256) = false := by decide

/-- S4: the ends of SELECT_BANK's range and what lies outside it. -/
theorem test_selectBank_range : Instr.wellFormed (.selectBank 1) = true ∧ Instr.wellFormed (.selectBank 6) = true ∧
    Instr.wellFormed (.selectBank 0) = false ∧ Instr.wellFormed (.selectBank 7) = false ∧
    Instr.wellFormed (.selectBank 257) = false := by decide

/-! ### Words, written out bit by bit from the table of R79 -/

/-- R191, format F_CS: 18 01. -/
theorem test_decode_powerOn : decode [0b11111110, 0b11111110, 0b10001000, 0b11100000, 0b00011000, 0b00000001, 0b11111101] =
    .ok .powerOn := by decide

/-- R192, format F_CS: 18 00. -/
theorem test_decode_powerOff : decode [0b11111110, 0b11111110, 0b10001000, 0b11100000, 0b00011000, 0b00000000, 0b11111101] =
    .ok .powerOff := by decide

/-- R193, S3, format F_CD: 08 64 is 100 in plain binary (C1). -/
theorem test_decode_gotoMemory :
    decode [0b11111110, 0b11111110, 0b10001000, 0b11100000, 0b00001000, 0b01100100, 0b11111101] = .ok (.gotoMemory 100) := by
  decide

/-- R194, S4, format F_CSD: 08 A0 03. -/
theorem test_decode_selectBank :
    decode [0b11111110, 0b11111110, 0b10001000, 0b11100000, 0b00001000, 0b10100000, 0b00000011, 0b11111101] =
      .ok (.selectBank 3) := by decide

/-- R195, format F_CSD: 1C 00 00. -/
theorem test_decode_setReceive :
    decode [0b11111110, 0b11111110, 0b10001000, 0b11100000, 0b00011100, 0b00000000, 0b00000000, 0b11111101] =
      .ok .setReceive := by decide

/-- R196, format F_CSD: 1C 00 01. -/
theorem test_decode_setTransmit :
    decode [0b11111110, 0b11111110, 0b10001000, 0b11100000, 0b00011100, 0b00000000, 0b00000001, 0b11111101] =
      .ok .setTransmit := by decide

/-- R197, S6, format F_CSD with a payload of two: 1A 06 01 02 and 1A 06 00 00. -/
theorem test_decode_setDataMode :
    decode [0b11111110, 0b11111110, 0b10001000, 0b11100000, 0b00011010, 0b00000110, 0b00000001, 0b00000010, 0b11111101] =
      .ok (.setDataMode true) ∧
    decode [0b11111110, 0b11111110, 0b10001000, 0b11100000, 0b00011010, 0b00000110, 0b00000000, 0b00000000, 0b11111101] =
      .ok (.setDataMode false) := by decide

/-- R198: READ_STATE has no frame (its row in the table is empty). -/
theorem test_decode_readState : decodeTableWord 0 0 = some .readState := by decide

/-- Each way a byte list is no operation's word, by name. -/
theorem test_decode_rejects :
    decode [0xFE, 0xFE, 0x88, 0xFD] = .error .tooShort ∧
    decode [0xFE, 0x00, 0x88, 0xE0, 0x18, 0x01, 0xFD] = .error .badPreamble ∧
    decode [0xFE, 0xFE, 0xE0, 0x88, 0x18, 0x01, 0xFD] = .error .badAddressing ∧
    decode [0xFE, 0xFE, 0x88, 0xE0, 0x42, 0x01, 0xFD] = .error .unknownCommand ∧
    decode [0xFE, 0xFE, 0x88, 0xE0, 0x18, 0x01, 0x01, 0xFD] = .error .badLength ∧
    decode [0xFE, 0xFE, 0x88, 0xE0, 0x18, 0x01, 0x00] = .error .noTerminator ∧
    decode [0xFE, 0xFE, 0x88, 0xE0, 0x18, 0x02, 0xFD] = .error .unknownSubcommand ∧
    decode [0xFE, 0xFE, 0x88, 0xE0, 0x1A, 0x06, 0x01, 0x00, 0xFD] = .error .badPayload := by decide

/-- R80: the bytes of a write name its operation, the wake-up bytes removed; an operand out of range names none. -/
theorem test_classify :
    classifyWrite [0xFE, 0xFE, 0xFE, 0xFE, 0x88, 0xE0, 0x18, 0x01, 0xFD] = some .powerOn ∧
    classifyWrite [0xFE, 0xFE, 0x88, 0xE0, 0x08, 0x65, 0xFD] = none ∧
    classifyWrite [0xFE, 0xFE, 0x88, 0xE0, 0x08, 0xA0, 0x07, 0xFD] = none := by decide

/-! ### ENCODE and DECODE -/

/-- E1, E2, E7, E9, E10. -/
theorem test_encode_formats :
    encodeFrame ⟨0x08, none, some [0x01]⟩ 0x88 0xE0 = [0xFE, 0xFE, 0x88, 0xE0, 0x08, 0x01, 0xFD] ∧
    encodeFrame ⟨0x08, some 0xA0, some [0x03]⟩ 0x88 0xE0 = [0xFE, 0xFE, 0x88, 0xE0, 0x08, 0xA0, 0x03, 0xFD] ∧
    encodeFrame ⟨0x1A, some 0x06, some [0x01, 0x02]⟩ 0x88 0xE0 = [0xFE, 0xFE, 0x88, 0xE0, 0x1A, 0x06, 0x01, 0x02, 0xFD] ∧
    encodeFrame ⟨0x42, none, none⟩ 0x88 0xE0 = [0xFE, 0xFE, 0x88, 0xE0, 0x42, 0xFD] ∧
    encodeFrame ⟨0x42, none, some []⟩ 0x88 0xE0 = [0xFE, 0xFE, 0x88, 0xE0, 0x42, 0xFD] := by decide

/-- E11, E12, E13. -/
theorem test_encode_corners :
    encodeFrame ⟨0xFD, none, none⟩ 0x88 0xE0 = [0xFE, 0xFE, 0x88, 0xE0, 0xFD, 0xFD] ∧
    encodeFrame ⟨0xFE, some 0xFE, some [0xFE]⟩ 0x88 0xE0 = [0xFE, 0xFE, 0x88, 0xE0, 0xFE, 0xFE, 0xFE, 0xFD] ∧
    encodeFrame ⟨0xFB, none, none⟩ 0xE0 0x88 = [0xFE, 0xFE, 0xE0, 0x88, 0xFB, 0xFD] := by decide

/-- D1, D2, D3, D4, D5, D7, D8, D9, D10. -/
theorem test_decodeFrame_errors :
    decodeFrame [] 0xE0 0x88 = .error .truncated ∧
    decodeFrame [0xFE, 0xFE, 0xE0, 0x88, 0xFB] 0xE0 0x88 = .error .truncated ∧
    decodeFrame [0x00, 0x11] 0xE0 0x88 = .error .truncated ∧
    decodeFrame [0xFD] 0xE0 0x88 = .error .badPreamble ∧
    decodeFrame [0xFE, 0xFD] 0xE0 0x88 = .error .badPreamble ∧
    decodeFrame [0x00, 0xFE, 0xFE, 0xE0, 0x88, 0xFB, 0xFD] 0xE0 0x88 = .error .badPreamble ∧
    decodeFrame [0xFE, 0xFE, 0xFD] 0xE0 0x88 = .error .badAddressing ∧
    decodeFrame [0xFE, 0xFE, 0xE0, 0xFD] 0xE0 0x88 = .error .badAddressing ∧
    decodeFrame [0xFE, 0xFE, 0xE0, 0x88, 0xFD] 0xE0 0x88 = .error .truncated := by decide

/-- D11 to D19, D21. -/
theorem test_decodeFrame_frames :
    decodeFrame fb 0xE0 0x88 = .ok ⟨0xFB, []⟩ ∧
    decodeFrame [0xFE, 0xFE, 0xE0, 0x88, 0x1C, 0x00, 0x01, 0xFD] 0xE0 0x88 = .ok ⟨0x1C, [0x00, 0x01]⟩ ∧
    decodeFrame [0xFE, 0xFE, 0x88, 0xE0, 0x1C, 0x00, 0x01, 0xFD] 0xE0 0x88 = .error .badAddressing ∧
    decodeFrame [0xFE, 0xFE, 0xFE, 0xE0, 0x88, 0xFB, 0xFD] 0xE0 0x88 = .error .badAddressing ∧
    decodeFrame [0xFE, 0xFE, 0xE0, 0x89, 0xFB, 0xFD] 0xE0 0x88 = .error .badAddressing ∧
    decodeFrame (fb ++ [0x00, 0x11]) 0xE0 0x88 = .ok ⟨0xFB, []⟩ ∧
    decodeFrame (fb ++ [0xFD]) 0xE0 0x88 = .ok ⟨0xFB, []⟩ ∧
    decodeFrame [0xFE, 0xFE, 0xE0, 0x88, 0xFE, 0xFE, 0xFD] 0xE0 0x88 = .ok ⟨0xFE, [0xFE]⟩ ∧
    decodeFrame [0xFE, 0xFE, 0x88, 0xE0, 0xFD, 0xFD] 0x88 0xE0 = .error .truncated ∧
    decodeFrame [0xFE, 0xFE, 0x88, 0xE0, 0x1A, 0x06, 0x01, 0x02, 0xFD] 0xE0 0x88 = .error .badAddressing := by decide

/-! ### The operations: what is written, and how each ends -/

/-- S5, V1: the wake-up bytes and the frame in one write. -/
theorem test_powerOn_bytes :
    seen (fun t => t.calls) (step (sent (powerOnRequest .b300) [.ok])) =
      some [.opened defaultConfiguration true, .write [0xFE, 0xFE, 0xFE, 0xFE, 0x88, 0xE0, 0x18, 0x01, 0xFD] .ok] ∧
    (powerOnRequest .b9600).out = [0xFE, 0xFE, 0xFE, 0xFE, 0xFE, 0xFE, 0xFE, 0xFE, 0xFE, 0xFE, 0xFE, 0xFE, 0xFE,
      0xFE, 0xFE, 0x88, 0xE0, 0x18, 0x01, 0xFD] := by decide

/-- V2, V3: POWER_ON does not judge what was read. -/
theorem test_powerOn_end :
    seen (fun t => (t.seq, codes t)) (step (terminated (powerOnRequest .b4800) [0x00, 0xFD])) =
      some (.idle, [.okBestEffort]) ∧
    seen codes (step (timedOut (powerOnRequest .b300) .silent [])) = some [.okBestEffort] := by decide

/-- V6: POWER_OFF. -/
theorem test_powerOff_end :
    seen (fun t => (codes t, t.mirror)) (step (terminated powerOffRequest fb)) = some ([.ok], mirror0) := by decide

/-- S3, V8: GOTO_MEMORY writes n in plain binary, and memory_num follows on OK. -/
theorem test_gotoMemory_end :
    (gotoMemoryRequest 10).out = [0xFE, 0xFE, 0x88, 0xE0, 0x08, 0x0A, 0xFD] ∧
    seen (fun t => (codes t, t.mirror)) (step (terminated (gotoMemoryRequest 10) fb)) =
      some ([.ok], { mirror0 with memoryNum := 10 }) := by decide

/-- S2, V10: an argument out of range, 256 among them, is answered and nothing else happens. -/
theorem test_gotoMemory_refused :
    seen (fun t => (t.seq, codes t, t.calls)) (exec (.gotoMemory 256) idle) =
      some (.idle, [.invalidArgument], [.opened defaultConfiguration true]) := by decide

/-- V12: SELECT_BANK(6), memory_num unchanged. -/
theorem test_selectBank_end :
    (selectBankRequest 6).out = [0xFE, 0xFE, 0x88, 0xE0, 0x08, 0xA0, 0x06, 0xFD] ∧
    seen (fun t => (codes t, t.mirror)) (step (terminated (selectBankRequest 6) fb)) =
      some ([.ok], { mirror0 with memoryBank := 6 }) := by decide

/-- V13, M7: SET_RECEIVE, confirmed and not. -/
theorem test_setReceive_end :
    seen (fun t => (codes t, t.mirror)) (step (terminated setReceiveRequest fb)) =
      some ([.ok], { mirror0 with transmitting := false }) ∧
    seen (fun t => (codes t, t.mirror))
        (step (judging (terminated setReceiveRequest [0xFE, 0xFE, 0xE0, 0x88, 0xFA, 0xFD]))) =
      some ([.notAcknowledged], mirror0) := by decide

/-- V14, M1: SET_TRANSMIT, cut short, and with a failed write. -/
theorem test_setTransmit_end :
    seen codes (step (timedOut setTransmitRequest .silent [0xFE, 0xFE, 0xE0, 0x88, 0xFB])) = some [.truncated] ∧
    seen (fun t => (t.seq, codes t, t.attempts, t.txStream)) (step (sent setTransmitRequest [.ioError 2])) =
      some (.idle, [.ioError], 0, [0xFE, 0xFE]) := by decide

/-- V15, P3 step 5: SET_DATA_MODE in both values. -/
theorem test_setDataMode_end :
    seen (fun t => (codes t, t.mirror)) (step (terminated (setDataModeRequest true) fb)) =
      some ([.ok], { mirror0 with dataMode := true }) ∧
    (setDataModeRequest false).out = [0xFE, 0xFE, 0x88, 0xE0, 0x1A, 0x06, 0x00, 0x00, 0xFD] := by decide

/-- V17, M5, M6: READ_STATE in flight, and in CLOSED. -/
theorem test_readState :
    seen (fun t => (t.seq, t.answers)) (exec .readState (waiting powerOffRequest [0xFE] [])) =
      some (.awaitingByte, [⟨.readState, .ok, some mirror0⟩]) ∧
    seen codes (exec .readState closed) = some [.connectError] := by decide

/-- M2, M3, M4: a second request under REJECT, an ill-formed one, and one under BLOCK. -/
theorem test_second_request :
    seen codes (exec .setTransmit (waiting (gotoMemoryRequest 5) [0xFE] [])) = some [.busy] ∧
    seen codes (exec (.gotoMemory 0) (waiting (gotoMemoryRequest 5) [0xFE] [])) = some [.invalidArgument] ∧
    seen (fun t => (codes t, t.held)) (exec .setTransmit (blocking (waiting (gotoMemoryRequest 5) [0xFE] []))) =
      some ([], [setTransmitRequest]) := by decide

/-! ### COLLECT -/

/-- C1's last pass, C2, C3's last pass, C6. -/
theorem test_collect_ends :
    seen (fun t => (t.seq, t.rxbuf, t.attempts))
        (step (waiting powerOffRequest [0xFE, 0xFE, 0xE0, 0x88, 0xFB] [.byte 0xFD])) = some (.gotTerminator, fb, 6) ∧
    seen (fun t => (t.seq, t.reason, t.attempts)) (step (waiting powerOffRequest [] [.silent])) =
      some (.timedOut, some .silent, 1) ∧
    seen (fun t => (t.seq, t.reason, t.attempts)) (step (waiting powerOffRequest [0xFE, 0xFE, 0xE0] [.silent])) =
      some (.timedOut, some .silent, 4) ∧
    seen (fun t => (t.seq, codes t, t.rxbuf)) (step (waiting powerOffRequest [0xFE] [.ioError])) =
      some (.idle, [.ioError], []) := by decide

/-- C7, C8's last pass: CANCEL and the bound come before the read attempt. -/
theorem test_collect_no_attempt :
    seen (fun t => (t.seq, t.reason, t.reads)) (step { waiting powerOffRequest [] [.byte 0xFE] with cancel := true }) =
      some (.timedOut, some .cancelled, [.byte 0xFE]) ∧
    seen (fun t => (t.seq, t.reason, t.reads))
        (step { waiting powerOffRequest [0xFE, 0xFE, 0xE0, 0x88, 0xFB] [.byte 0xFD] with
          config := { defaultConfiguration with maxReadAttempts := 5 } }) =
      some (.timedOut, some .exhausted, [.byte 0xFD]) := by decide

/-- C2, C3, C4, C7, C5, C10: what is answered for each end. -/
theorem test_collect_results :
    seen codes (step (timedOut powerOffRequest .silent [])) = some [.noResponse] ∧
    seen codes (step (timedOut powerOffRequest .silent [0xFE, 0xFE, 0xE0])) = some [.truncated] ∧
    seen codes (step (timedOut powerOffRequest .exhausted [0, 0, 0, 0, 0, 0, 0, 0])) = some [.timeout] ∧
    seen codes (step (timedOut powerOffRequest .cancelled [])) = some [.timeout] ∧
    seen codes (step (terminated powerOffRequest [0xFD])) = some [.badPreamble] ∧
    seen codes (step (terminated powerOffRequest [0xFE, 0xFE, 0x88, 0xE0, 0x1C, 0x00, 0x01, 0xFD])) =
      some [.badAddressing] := by decide

/-! ### From reset -/

/-- R161: the word of a row, presented first after reset, runs: accepted. -/
theorem test_first_word :
    seen (fun t => (t.seq, t.cur)) (step (State.reset.withFetchWord 64 0xFD03A008E088FEFE)) =
      some (.sent, some (selectBankRequest 3)) ∧
    seen codes (step (State.reset.withFetchWord 0 0)) = some [.ok] := by decide

/-- R254, R51: one `close`, from IDLE and from CLOSED. -/
theorem test_session_end :
    seen (fun t => (t.inSession, t.calls)) (step (facing idle .endSession)) =
      some (false, [.opened defaultConfiguration true, .closed]) ∧
    seen (fun t => (t.inSession, t.calls)) (step (facing closed .endSession)) =
      some (false, [.opened defaultConfiguration false, .closed]) := by decide

/-- V18, R250: a bring-up, and one with BAUD 2400. -/
theorem test_bring_up :
    seen (fun t => (t.seq, t.calls)) (step (facing (ended idle) (.bringUp (setup 1200 true)))) =
      some (.idle, [.opened defaultConfiguration true, .closed, .opened ⟨.b1200, 1, .block, .acceptAll, false⟩ true]) ∧
    step (facing (ended idle) (.bringUp (setup 2400 true))) = .refused (.baudNotInTable 2400) := ⟨by decide, rfl⟩

/-! ### Witnesses: states and operands that meet the hypotheses of the statements -/

/-- DecodeEncodeRoundTrip, at both ends of each range. -/
theorem test_witness_DecodeEncodeRoundTrip : ∀ i ∈ [.powerOn, .gotoMemory 1, .gotoMemory 100, .selectBank 1, .selectBank 6,
    .setDataMode true, .readState], Instr.wellFormed i = true := by decide

/-- DecodedWordIsEncoded, an operand byte out of range among them. -/
theorem test_witness_DecodedWordIsEncoded :
    decode [0xFE, 0xFE, 0x88, 0xE0, 0x08, 0x64, 0xFD] = .ok (.gotoMemory 100) ∧
    decode [0xFE, 0xFE, 0x88, 0xE0, 0x08, 0xFF, 0xFD] = .ok (.gotoMemory 255) ∧ decode [] = .ok .readState := by decide

/-- WriteBytesNameTheOperation, both directions at the ends of the ranges. -/
theorem test_witness_WriteBytesNameTheOperation :
    classifyWrite [0xFE, 0xFE, 0x88, 0xE0, 0x08, 0x64, 0xFD] = some (.gotoMemory 100) ∧
    classifyWrite [0xFE, 0xFE, 0x88, 0xE0, 0x08, 0xA0, 0x06, 0xFD] = some (.selectBank 6) ∧
    stripWake [0xFE, 0xFE, 0xFE, 0x88, 0xE0, 0x18, 0x01, 0xFD] = [0xFE, 0xFE, 0x88, 0xE0, 0x18, 0x01, 0xFD] := by decide

/-- EveryWriteIsClassified, OwnFrameIsNoResponse. -/
theorem test_witness_EveryWriteIsClassified :
    requestOf .b19200 .powerOn = some (powerOnRequest .b19200) ∧ Instr.wellFormed .powerOn = true ∧
    requestOf .b300 (.selectBank 6) = some (selectBankRequest 6) ∧ Instr.wellFormed (.selectBank 6) = true := by decide

/-- EncodeLengthAndPositions, with a subcommand and two payload bytes, and with neither. -/
theorem test_witness_EncodeLengthAndPositions :
    ((1 = match (Command.mk 0x1A (some 0x06) (some [0x01, 0x02])).subcmdNum with | some _ => 1 | none => 0) ∧
      ([0x01, 0x02] = match (Command.mk 0x1A (some 0x06) (some [0x01, 0x02])).data with | some d => d | none => []) ∧
      2 = ([0x01, 0x02] : List Byte).length) ∧
    ((0 = match (Command.mk 0x42 none none).subcmdNum with | some _ => 1 | none => 0) ∧
      (([] : List Byte) = match (Command.mk 0x42 none none).data with | some d => d | none => []) ∧
      0 = ([] : List Byte).length) := by decide

/-- EncodedFrameWellFormedIff and FrameRoundTripLaw: E7's command. -/
theorem test_witness_FrameRoundTripLaw : (0x88 : Byte) ≠ 0xFD ∧ (0xE0 : Byte) ≠ 0xFD ∧
    (Command.mk 0x1A (some 0x06) (some [0x01, 0x02])).cmdNum ≠ 0xFD ∧
    (Command.mk 0x1A (some 0x06) (some [0x01, 0x02])).subcmdNum ≠ some 0xFD ∧
    ∀ pay, (Command.mk 0x1A (some 0x06) (some [0x01, 0x02])).data = some pay → 0xFD ∉ pay := by
  refine ⟨by decide, by decide, by decide, by decide, ?_⟩
  rintro pay ⟨⟩
  decide

/-- DecodeReportsFirstFailedTest: no terminator, and a first terminator at each index where the clauses meet. -/
theorem test_witness_DecodeReportsFirstFailedTest :
    (0xFD : Byte) ∉ ([0xFE, 0xFE] : List Byte) ∧
    (∀ p ∈ [([0xFD], 0), ([0xFE, 0xFE, 0xFD], 2), ([0xFE, 0xFE, 0xE0, 0x88, 0xFD], 4), (fb, 5)],
      (p.1 : List Byte)[p.2]? = some 0xFD ∧ ∀ j < p.2, p.1[j]? ≠ some 0xFD) := by decide

/-- DecodeIgnoresTrailingBytes, AcceptedResponseForm. -/
theorem test_witness_AcceptedResponseForm : 0xFD ∈ fb ∧
    ∃ xs : List Byte, fb = xs ++ [0xFD] ∧ 0xFD ∉ xs := ⟨by decide, [0xFE, 0xFE, 0xE0, 0x88, 0xFB], by decide, by decide⟩

/-- BringUpRegisters: `open` succeeding and failing, after a session in IDLE and one in CLOSED, at the least bound; and a
rate not in the table (BaudOutsideTableRefused). -/
theorem test_witness_BringUpRegisters :
    (facing (ended idle) (.bringUp (setup 300 true))).schedule = .bringUp (setup 300 true) :: [] ∧
    (facing (ended idle) (.bringUp (setup 300 true))).inSession = false ∧
    (facing (ended closed) (.bringUp (setup 300 false))).schedule = .bringUp (setup 300 false) :: [] ∧
    (facing (ended closed) (.bringUp (setup 300 false))).inSession = false ∧
    baudOfNat (setup 300 true).baud = some .b300 ∧ 1 ≤ (setup 300 true).maxReadAttempts ∧
    (setup 300 true).init.legal = true ∧ (setup 300 true).openSucceeds = true ∧ (setup 300 false).openSucceeds = false ∧
    baudOfNat (setup 2400 true).baud = none ∧ (setup 2400 true).baud ∉ [300, 1200, 4800, 9600, 19200] :=
  ⟨rfl, rfl, rfl, rfl, rfl, by decide, by decide, rfl, rfl, rfl, by decide⟩

/-- SessionEndAndNextSession, each clause: an end from IDLE and from CLOSED, an end with no session, a bring-up in a session
(one after it: test_witness_BringUpRegisters). -/
theorem test_witness_SessionEndAndNextSession :
    ((facing idle .endSession).schedule = .endSession :: [] ∧ (facing idle .endSession).seq.inFlight = false ∧
      (facing idle .endSession).inSession = true) ∧
    ((facing closed .endSession).schedule = .endSession :: [] ∧ (facing closed .endSession).seq.inFlight = false ∧
      (facing closed .endSession).inSession = true) ∧
    ((facing (ended idle) .endSession).schedule = .endSession :: [] ∧
      (facing (ended idle) .endSession).seq.inFlight = false ∧ (facing (ended idle) .endSession).inSession = false) ∧
    ((facing idle (.bringUp (setup 300 true))).schedule = .bringUp (setup 300 true) :: [] ∧
      (facing idle (.bringUp (setup 300 true))).inSession = true) ∧ baudOfNat (setup 300 true).baud ≠ none := by
  exact ⟨⟨rfl, rfl, rfl⟩, ⟨rfl, rfl, rfl⟩, ⟨rfl, rfl, rfl⟩, ⟨rfl, rfl⟩, by decide⟩

/-- CloseDuringRequestRefused. -/
theorem test_witness_CloseDuringRequestRefused :
    (facing (sent powerOffRequest []) .endSession).schedule = .endSession :: [] ∧
    (facing (sent powerOffRequest []) .endSession).seq.inFlight = true := ⟨rfl, rfl⟩

/-- FailedOpenIsFinal, with a request waiting and with nothing waiting. -/
theorem test_witness_FailedOpenIsFinal :
    closed.seq = .closed ∧ closed.sameSession ∧ step closed = .next closed ∧
    (facing closed (.request .powerOn)).sameSession ∧
    step (facing closed (.request .powerOn)) = .next (closed.answeredOnly .powerOn .connectError none) :=
  ⟨rfl, by simp [State.sameSession, closed, idle, State.reset], rfl, by simp [State.sameSession, facing], rfl⟩

/-- StepRunsTheRequest, each clause: a request in a session and outside one, a step by an event and by itself, a word. -/
theorem test_witness_StepRunsTheRequest :
    ((facing idle (.request .readState)).schedule = .request .readState :: [] ∧
      (facing idle (.request .readState)).inSession = true) ∧
    ((facing (ended idle) (.request .readState)).schedule = .request .readState :: [] ∧
      (facing (ended idle) (.request .readState)).inSession = false) ∧
    (facing (sent powerOffRequest [.ok]) .advance).schedule = .advance :: [] ∧ (sent powerOffRequest [.ok]).schedule = [] ∧
    idle.inSession = true ∧ decodeTableWord 56 0xFD6408E088FEFE = some (.gotoMemory 100) :=
  ⟨⟨rfl, rfl⟩, ⟨rfl, rfl⟩, rfl, rfl, rfl, by decide⟩

/-- RequestTestsInOrder, OutOfRangeArgumentAnswered at the values next to each range. -/
theorem test_witness_RequestTestsInOrder :
    requestOf idle.config.baud (.gotoMemory 101) = some (gotoMemoryRequest 101) ∧ idle.seq ≠ .closed ∧
    ¬((1 : Int) ≤ 0 ∧ (0 : Int) ≤ 100) ∧ ¬((1 : Int) ≤ 101 ∧ (101 : Int) ≤ 100) ∧ ¬((1 : Int) ≤ 0 ∧ (0 : Int) ≤ 6) ∧
    ¬((1 : Int) ≤ 7 ∧ (7 : Int) ≤ 6) := by decide

/-- OutOfRangeArgumentAnswered's second clause: a step that answers INVALID_ARGUMENT. -/
theorem test_witness_OutOfRangeArgumentAnswered :
    step (facing idle (.request (.selectBank 7))) = .next (idle.answeredOnly (.selectBank 7) .invalidArgument none) ∧
    (idle.answeredOnly (.selectBank 7) .invalidArgument none).answers =
      (facing idle (.request (.selectBank 7))).answers ++ [⟨.selectBank 7, .invalidArgument, none⟩] := ⟨rfl, rfl⟩

/-- BusyRequestRejected. -/
theorem test_witness_BusyRequestRejected :
    Instr.isWire (.selectBank 6) = true ∧ Instr.wellFormed (.selectBank 6) = true ∧
    (waiting powerOffRequest [] []).seq.inFlight = true ∧ (waiting powerOffRequest [] []).config.busyPolicy = .reject := by
  decide

/-- BusyOnlyUnderReject (its second clause has HeldUntilIdleThenAnyOrder's first hypotheses). -/
theorem test_witness_BusyOnlyUnderReject :
    step (facing (waiting powerOffRequest [] []) (.request .setTransmit)) =
      .next ((waiting powerOffRequest [] []).answeredOnly .setTransmit .busy none) ∧
    ((waiting powerOffRequest [] []).answeredOnly .setTransmit .busy none).answers =
      (facing (waiting powerOffRequest [] []) (.request .setTransmit)).answers ++ [⟨.setTransmit, .busy, none⟩] := ⟨rfl, rfl⟩

/-- HeldUntilIdleThenAnyOrder: a second request under BLOCK, a step in flight, and the later of two held requests taken first. -/
theorem test_witness_HeldUntilIdleThenAnyOrder :
    (requestOf (blocking (sent powerOffRequest [.ok])).config.baud .setTransmit = some setTransmitRequest ∧
      Instr.wellFormed .setTransmit = true ∧ (blocking (sent powerOffRequest [.ok])).seq.inFlight = true ∧
      (blocking (sent powerOffRequest [.ok])).config.busyPolicy = .block) ∧
    (seen (fun t => t.held) (step { blocking (sent powerOffRequest [.ok]) with held := [setTransmitRequest] }) =
      some [setTransmitRequest]) ∧
    (({ idle with held := [setTransmitRequest, powerOffRequest], picks := [1] } : State).schedule = [] ∧
      ({ idle with held := [setTransmitRequest, powerOffRequest], picks := [1] } : State).held[1]? = some powerOffRequest ∧
      seen (fun t => (t.cur, t.held)) (step { idle with held := [setTransmitRequest, powerOffRequest], picks := [1] }) =
        some (some powerOffRequest, [setTransmitRequest])) := by decide

/-- PortFrame, one of each kind: accepted, answered, held. -/
theorem test_witness_PortFrame :
    exec .setReceive idle = .next { idle with seq := .sent, cur := some setReceiveRequest } ∧
    exec .readState idle = .next (idle.answeredOnly .readState .ok (some mirror0)) ∧
    exec .powerOff (blocking (sent setReceiveRequest [])) =
      .next { blocking (sent setReceiveRequest []) with held := [powerOffRequest] } := ⟨rfl, rfl, rfl⟩

/-- What PortServes asks of the state, each clause: for every operation's meaning (R191 to R198). -/
theorem test_witness_PortServes :
    closed.seq = .closed ∧
    ((sent powerOffRequest []).seq.inFlight = true ∧ (sent powerOffRequest []).config.busyPolicy = .reject) ∧
    ((blocking (sent powerOffRequest [])).seq.inFlight = true ∧
      (blocking (sent powerOffRequest [])).config.busyPolicy = .block) ∧ idle.seq = .idle ∧ idle.seq ≠ .closed := by decide

/-- The states JudgedEnds and TransportFailureEnds speak of, for a request `r`: a terminated response of each verdict, each
reason, a failed write, one that returns Ok, and a failed read attempt. -/
def MeetsEndings (r : Request) : Prop :=
  ((terminated r fb).schedule = [] ∧ (terminated r fb).cur = some r ∧ (terminated r fb).seq = .gotTerminator ∧
    decodeFrame (terminated r fb).rxbuf 0xE0 0x88 = .ok ⟨0xFB, []⟩) ∧
  (decodeFrame (terminated r [0xFD]).rxbuf 0xE0 0x88 = .error .badPreamble ∧
    decodeFrame (terminated r [0xFE, 0xFE, 0xFD]).rxbuf 0xE0 0x88 = .error .badAddressing ∧
    decodeFrame (terminated r [0xFE, 0xFE, 0xE0, 0x88, 0xFD]).rxbuf 0xE0 0x88 = .error .truncated ∧
    ackAccepts (judging (terminated r fb)).config.ackPredicate r.command ⟨0xFB, []⟩ = true ∧
    ackAccepts (judging (terminated r fb)).config.ackPredicate r.command ⟨0xFA, []⟩ = false) ∧
  ((timedOut r .silent []).schedule = [] ∧ (timedOut r .silent []).cur = some r ∧ (timedOut r .silent []).seq = .timedOut ∧
    (timedOut r .silent []).reason = some .silent ∧ (timedOut r .silent []).rxbuf.length = 0 ∧
    1 ≤ (timedOut r .silent [0xFE]).rxbuf.length ∧ (timedOut r .exhausted []).reason = some .exhausted ∧
    (timedOut r .cancelled []).reason = some .cancelled) ∧
  ((sent r [.ioError 0]).schedule = [] ∧ (sent r [.ioError 0]).cur = some r ∧ (sent r [.ioError 0]).seq = .sent ∧
    (sent r [.ioError 0]).nextWrite = .ioError 0 ∧ (sent r [.ok]).nextWrite = .ok) ∧
  ((waiting r [] [.ioError]).schedule = [] ∧ (waiting r [] [.ioError]).cur = some r ∧
    (waiting r [] [.ioError]).seq = .awaitingByte ∧ (waiting r [] [.ioError]).cancel = false ∧
    (waiting r [] [.ioError]).attempts ≠ (waiting r [] [.ioError]).config.maxReadAttempts ∧
    (waiting r [] [.ioError]).nextRead = .ioError)

/-- PowerOffMeaning to SetDataModeMeaning, and OutcomeMapping: one line an operation, the boundary arguments among them. -/
theorem test_witness_JudgedEnds : MeetsEndings powerOffRequest ∧ MeetsEndings (gotoMemoryRequest 1) ∧
    MeetsEndings (gotoMemoryRequest 100) ∧ MeetsEndings (selectBankRequest 1) ∧ MeetsEndings (selectBankRequest 6) ∧
    MeetsEndings setReceiveRequest ∧ MeetsEndings setTransmitRequest ∧ MeetsEndings (setDataModeRequest true) ∧
    MeetsEndings (setDataModeRequest false) ∧ powerOffRequest.request ≠ .powerOn := by
  have h : ∀ r, MeetsEndings r := fun r => by
    refine ⟨⟨rfl, rfl, rfl, rfl⟩, ⟨rfl, rfl, rfl, rfl, rfl⟩, ⟨rfl, rfl, rfl, rfl, rfl, ?_, rfl, rfl⟩, ⟨rfl, rfl, rfl, rfl, rfl⟩,
      rfl, rfl, rfl, rfl, ?_, rfl⟩
    · simp [timedOut]
    · simp [waiting, idle, State.reset, defaultConfiguration]
  exact ⟨h _, h _, h _, h _, h _, h _, h _, h _, h _, by decide⟩

/-- PowerOnMeaning: both ends of COLLECT, and the transport failures. -/
theorem test_witness_PowerOnMeaning :
    (terminated (powerOnRequest .b9600) fb).cur = some (powerOnRequest .b9600) ∧
    (terminated (powerOnRequest .b9600) fb).seq = .gotTerminator ∧
    (timedOut (powerOnRequest .b9600) .silent []).seq = .timedOut ∧
    (timedOut (powerOnRequest .b9600) .silent []).reason ≠ none ∧
    (sent (powerOnRequest .b9600) [.ioError 20]).nextWrite = .ioError 20 ∧
    (waiting (powerOnRequest .b9600) [] [.ioError]).nextRead = .ioError ∧
    (powerOnRequest .b9600).request = .powerOn := by decide

/-- GotoMemoryMeaning and SelectBankMeaning: the ends of the ranges, and their neighbours outside. -/
theorem test_witness_ranges : (∀ n ∈ [(1 : Int), 100], 1 ≤ n ∧ n ≤ 100) ∧ (∀ n ∈ [(1 : Int), 6], 1 ≤ n ∧ n ≤ 6) ∧
    (∀ n ∈ [(0 : Int), 101], ¬(1 ≤ n ∧ n ≤ 100)) ∧ ∀ n ∈ [(0 : Int), 7], ¬(1 ≤ n ∧ n ≤ 6) := by decide

/-- CollectStartsAfterWrite and WriteFailureEndsRequest. -/
theorem test_witness_CollectStartsAfterWrite :
    ((sent powerOffRequest [.ok]).schedule = [] ∧ (sent powerOffRequest [.ok]).seq = .sent ∧
      (sent powerOffRequest [.ok]).cur = some powerOffRequest ∧ (sent powerOffRequest [.ok]).writes = .ok :: []) ∧
    seen (fun t => t.seq) (step (sent powerOffRequest [.ok])) = some .awaitingByte ∧
    (sent powerOffRequest [.ioError 3]).writes = .ioError 3 :: [] := by decide

/-- CollectPassFollowsTheLoop and CancelEndsTheReadLoop: CANCEL at 1, the bound reached, and neither. -/
theorem test_witness_CollectPassFollowsTheLoop :
    ((waiting powerOffRequest [] [.silent]).schedule = [] ∧ (waiting powerOffRequest [] [.silent]).seq = .awaitingByte ∧
      (waiting powerOffRequest [] [.silent]).cur = some powerOffRequest) ∧
    ({ waiting powerOffRequest [0xFE] [] with cancel := true }).cancel = true ∧
    (waiting powerOffRequest (List.replicate 16 0) []).attempts =
      (waiting powerOffRequest (List.replicate 16 0) []).config.maxReadAttempts := by decide

/-- CancelEndsTheReadLoop's second clause: SENT, GOT_TERMINATOR, TIMED_OUT, IDLE and CLOSED. -/
theorem test_witness_CancelChangesNothing :
    (∀ s ∈ [sent powerOffRequest [.ok], terminated powerOffRequest fb, timedOut powerOffRequest .silent []],
      s.seq ≠ .awaitingByte ∧ (seen (fun t => t.seq) (advance s)).isSome) ∧
    advance idle = .next idle ∧ idle.seq ≠ .awaitingByte ∧ advance closed = .next closed ∧ closed.seq ≠ .awaitingByte :=
  ⟨by decide, rfl, by decide, rfl, by decide⟩

/-- ConfigurationAndCancelNotWritten's second clause, both levels. -/
theorem test_witness_CancelIsDriven : ∀ level, (facing (waiting powerOffRequest [] []) (.cancel level)).schedule =
    .cancel level :: [] ∧ seen (fun t => t.cancel) (step (facing idle (.cancel level))) = some level := by
  intro level
  exact ⟨rfl, rfl⟩

/-- MirrorWrittenOnlyOnOk, PassiveFieldsNeverWritten, ConfigurationAndCancelNotWritten, DefaultPredicateAcknowledges: a
completion step with OK. -/
theorem test_witness_MirrorWrittenOnlyOnOk :
    (terminated setReceiveRequest fb).sameSession ∧
    step (terminated setReceiveRequest fb) = .next ((terminated setReceiveRequest fb).endedWith setReceiveRequest .ok
      { mirror0 with transmitting := false }) ∧
    ({ mirror0 with transmitting := false } : RadioState) ≠ (terminated setReceiveRequest fb).mirror ∧
    (∀ level rest, (terminated setReceiveRequest fb).schedule ≠ .cancel level :: rest) ∧
    (terminated setReceiveRequest fb).config.ackPredicate = .acceptAll ∧
    ((terminated setReceiveRequest fb).endedWith setReceiveRequest .ok { mirror0 with transmitting := false }).answers =
      (terminated setReceiveRequest fb).answers ++ [⟨.setReceive, .ok, none⟩] :=
  ⟨by simp [State.sameSession, terminated, idle, State.reset], rfl, by decide,
    by simp [terminated, idle, State.reset], rfl, rfl⟩

/-- BacklogNeverDrained: a read attempt, and a step without one. -/
theorem test_witness_BacklogNeverDrained :
    seen (fun t => t.reads) (step (waiting powerOffRequest [] [.byte 0xFE, .byte 0xFD])) = some [.byte 0xFD] ∧
    seen (fun t => t.reads) (step { terminated powerOffRequest fb with reads := [.byte 0xFE] }) = some [.byte 0xFE] := by
  decide

/-- The register invariant holds of a request just accepted. -/
theorem sent_regInv (writes : List WriteAnswer) : RegInv (sent setTransmitRequest writes) where
  cur_none_iff := by simp [sent, Seq.inFlight]
  cur_wf := by
    rintro r ⟨⟩
    exact ⟨rfl, rfl, rfl⟩
  held_wf := by simp [sent, idle, State.reset]
  held_block := by simp [sent, idle, State.reset]
  bound_pos := by simp [sent, idle, State.reset, defaultConfiguration]
  attempts_le := by simp [sent, idle, State.reset]
  quiet := by simp [sent, idle, State.reset]
  awaiting := by simp [sent]
  terminated := by simp [sent]
  timed_out := by simp [sent]
  reason_only := by simp [sent, idle, State.reset]
  mirror_legal := rfl
  session_over := by simp [sent, idle, State.reset]

/-- StepKeepsRegisterInvariant, InvariantStatesNeverFault, RequestInFlightEnds: a request accepted, its write to come. -/
theorem test_witness_StepKeepsRegisterInvariant :
    RegInv (sent setTransmitRequest [.ok]) ∧ (sent setTransmitRequest [.ok]).sameSession ∧
    (sent setTransmitRequest [.ok]).schedule = [] ∧ (sent setTransmitRequest [.ok]).seq.inFlight = true ∧
    (sent setTransmitRequest [.ok]).inSession = true ∧
    seen (fun t => t.seq) (step (sent setTransmitRequest [.ok])) = some .awaitingByte :=
  ⟨sent_regInv _, by simp [State.sameSession, sent, idle, State.reset], rfl, rfl, rfl, by decide⟩

/-- StepKeepsCallOrder: while the block waits for a byte, after one was read. -/
theorem test_witness_StepKeepsCallOrder :
    CallOrder { waiting powerOffRequest [0xFE] [.silent] with
      calls := [.opened defaultConfiguration true, .write powerOffRequest.out .ok, .read (.byte 0xFE)] } ∧
    seen (fun t => t.seq) (step { waiting powerOffRequest [0xFE] [.silent] with
      calls := [.opened defaultConfiguration true, .write powerOffRequest.out .ok, .read (.byte 0xFE)] }) = some .timedOut := by
  exact ⟨⟨.reads 1, rfl, rfl, by decide, fun _ => rfl⟩, by decide⟩

/-- AtMostOneInFlight: both clauses; TxStreamIsWholeWrites: a write step and a failed one. -/
theorem test_witness_AtMostOneInFlight :
    ((sent powerOffRequest [.ok]).seq.inFlight = true ∧
      seen (fun t => (t.seq.inFlight, t.txStream)) (step (sent powerOffRequest [.ok])) =
        some (true, [0xFE, 0xFE, 0x88, 0xE0, 0x18, 0x00, 0xFD])) ∧
    seen (fun t => t.txStream) (step (sent powerOffRequest [.ioError 1])) = some [0xFE] ∧
    (idle.seq.inFlight = false ∧ seen (fun t => t.seq.inFlight) (step (facing idle (.request .powerOff))) = some true) := by
  decide

/-- EveryRequestCountedOnce: a request presented, a step with none, a session's end, a bring-up. -/
theorem test_witness_EveryRequestCountedOnce :
    (facing idle (.request .powerOff)).schedule = .request .powerOff :: [] ∧
    seen State.accounted (step (facing idle (.request .powerOff))) = some 1 ∧
    (∀ i rest, idle.schedule ≠ .request i :: rest) ∧ idle.sameSession ∧ step idle = .next idle ∧
    ((facing idle .endSession).schedule = .endSession :: [] ∧
      seen State.accounted (step (facing idle .endSession)) = some 0) ∧
    ((facing (ended idle) (.bringUp (setup 300 true))).seq.inFlight = false ∧
      seen State.accounted (step (facing (ended idle) (.bringUp (setup 300 true)))) = some 0) :=
  ⟨rfl, by decide, by simp [idle, State.reset], by simp [State.sameSession, idle, State.reset], rfl, ⟨rfl, by decide⟩, rfl,
    by decide⟩

/-- ConfirmedRoundTrip: SET_TRANSMIT, a response with two bytes of blob that just fits the bound, and a late byte after it. -/
theorem test_witness_ConfirmedRoundTrip :
    let s : State := { idle with writes := [.ok], reads := (responseFrame 0x1C [0x00, 0x01]).map .byte ++ [.silent]
                                 config := { defaultConfiguration with maxReadAttempts := 8 } }
    requestOf s.config.baud .setTransmit = some setTransmitRequest ∧ Instr.wellFormed .setTransmit = true ∧ s.seq = .idle ∧
    s.schedule = [] ∧ s.cancel = false ∧ s.writes = .ok :: [] ∧
    s.reads = (responseFrame 0x1C [0x00, 0x01]).map .byte ++ [.silent] ∧ 0xFD ∉ (0x1C : Byte) :: [0x00, 0x01] ∧
    (responseFrame 0x1C [0x00, 0x01]).length ≤ s.config.maxReadAttempts ∧
    ackAccepts s.config.ackPredicate setTransmitRequest.command ⟨0x1C, [0x00, 0x01]⟩ = true := by
  decide

/-- ObserverChangesNothing: with an observer, the step it compares has a next state and the hook was told something. -/
theorem test_witness_ObserverChangesNothing :
    seen (fun t => t.observed) (step { sent powerOffRequest [.ok] with
      config := { defaultConfiguration with observerPresent := true } }) =
      some [⟨.outbound, [0xFE, 0xFE, 0x88, 0xE0, 0x18, 0x00, 0xFD]⟩] := by decide

end Sys2Proof.Tests
end

section
/-! SUPPORT. What no operation and no sequencer step writes (spec/10_state.md R26, R27, R29): the configuration, CANCEL and
the passive fields of the mirror, and from that the statements O45 and O46. -/

namespace Sys2Proof.Machine

/-- The part of the state that the block itself never writes: the configuration (R27), CANCEL (R26) and the passive fields
of the mirror (R29). -/
def State.unwritten (s : State) : Configuration × Bool × PassiveFields :=
  (s.config, s.cancel, s.mirror.passive)

/-- Two states agree on the unwritten part when they agree on each of its fields. -/
theorem State.unwritten_eq_iff {s t : State} : t.unwritten = s.unwritten ↔
    t.config = s.config ∧ t.cancel = s.cancel ∧ t.mirror.passive = s.mirror.passive := by
  simp [State.unwritten]

/-- No operation's APPLY writes a passive field (R29). -/
@[simp] theorem applyTo_passive (i : Instr) (m : RadioState) : (applyTo i m).passive = m.passive := by
  cases i <;> rfl

@[simp] theorem State.takeEvent_unwritten (s : State) (rest : List Event) :
    (s.takeEvent rest).unwritten = s.unwritten := rfl

@[simp] theorem State.finish_unwritten (s : State) (r : Request) (code : Result) :
    (s.finish r code).unwritten = s.unwritten := rfl

/-- The completion step's write to the mirror is an APPLY or none, and leaves the passive fields (R29, R169). -/
@[simp] theorem State.applyIfOk_unwritten (s : State) (r : Request) (code : Result) :
    (s.applyIfOk r code).unwritten = s.unwritten := by
  by_cases hok : code = .ok <;> simp [State.unwritten, hok]

@[simp] theorem complete_unwritten (r : Request) (code : Result) (s : State) :
    (complete r code s).unwritten = s.unwritten := by
  simp [complete]

@[simp] theorem writeStep_unwritten (r : Request) (s : State) : (writeStep r s).unwritten = s.unwritten := by
  obtain ⟨-, hw⟩ | ⟨k, -, hw⟩ := writeStep_cases r s <;> simp [hw, State.unwritten]

@[simp] theorem collectPass_unwritten (r : Request) (s : State) : (collectPass r s).unwritten = s.unwritten := by
  obtain ⟨-, hp⟩ | ⟨-, -, hp⟩ | ⟨-, -, ⟨-, hp⟩ | ⟨-, hp⟩ | ⟨-, hp⟩ | ⟨b, -, -, hp⟩⟩ := collectPass_cases r s <;>
    simp [hp, State.unwritten]

@[simp] theorem serveHeld_unwritten (s : State) : (serveHeld s).unwritten = s.unwritten := by
  obtain ⟨-, hh⟩ | ⟨k, r, -, -, hh⟩ := serveHeld_cases s <;> simp [hh, State.unwritten]

/-- The sequencer's own step writes neither the configuration, CANCEL nor a passive field. -/
theorem advance_unwritten {s t : State} (h : advance s = .next t) : t.unwritten = s.unwritten := by
  obtain ⟨-, rfl⟩ | ⟨-, rfl⟩ | ⟨r, -, -, rfl⟩ | ⟨r, -, -, rfl⟩ | ⟨r, -, -, rfl⟩ | ⟨r, why, -, -, -, rfl⟩ :=
    advance_cases h
  case inl => rfl
  all_goals simp

/-- No operation on the port writes the configuration, CANCEL or a passive field. -/
theorem exec_unwritten {i : Instr} {s t : State} (h : exec i s = .next t) : t.unwritten = s.unwritten := by
  obtain ⟨code, snap, he, -⟩ | ⟨r, -, -, -, -, he⟩ | ⟨r, -, -, -, he⟩ := exec_cases i s <;>
  · obtain rfl := Host.Outcome.next.inj (he.symm.trans h)
    rfl

/-- What the block never writes, only two events write: the caller's drive of CANCEL, and a bring-up. -/
theorem step_unwritten_cases {s t : State} (h : step s = .next t) :
    t.unwritten = s.unwritten ∨
    (∃ level rest, s.schedule = .cancel level :: rest ∧ t = (s.takeEvent rest).setCancel level) ∨
    (∃ setup rest b, s.schedule = .bringUp setup :: rest ∧ t = (s.takeEvent rest).openChannel setup b) := by
  obtain ⟨-, ha⟩ | ⟨i, rest, -, -, he⟩ | ⟨level, rest, hs, ht⟩ | ⟨rest, -, -, -, rfl⟩ | ⟨setup, rest, b, hs, -, -, -, -, ht⟩ :=
    step_cases h
  · exact .inl ((advance_unwritten ha).trans (s.takeEvent_unwritten _))
  · exact .inl ((exec_unwritten he).trans (s.takeEvent_unwritten rest))
  · exact .inr (.inl ⟨level, rest, hs, ht⟩)
  · exact .inl rfl
  · exact .inr (.inr ⟨setup, rest, b, hs, ht⟩)

/-- A step of a session writes neither the configuration nor a passive field (R27, R29). -/
theorem step_keeps_config_and_passive {s t : State} (hsame : s.sameSession) (h : step s = .next t) :
    t.config = s.config ∧ t.mirror.passive = s.mirror.passive := by
  obtain hu | ⟨level, rest, -, rfl⟩ | ⟨setup, rest, b, hs, -⟩ := step_unwritten_cases h
  · obtain ⟨hconfig, -, hpassive⟩ := State.unwritten_eq_iff.mp hu
    exact ⟨hconfig, hpassive⟩
  · exact ⟨rfl, rfl⟩
  · exact absurd hs (hsame.2 setup rest)

/-- A step that does not take the caller's drive of CANCEL leaves CANCEL, a bring-up included (R26). -/
theorem step_keeps_cancel {s t : State} (hcancel : ∀ level rest, s.schedule ≠ .cancel level :: rest)
    (h : step s = .next t) : t.cancel = s.cancel := by
  obtain hu | ⟨level, rest, hs, -⟩ | ⟨setup, rest, b, -, rfl⟩ := step_unwritten_cases h
  · obtain ⟨-, hc, -⟩ := State.unwritten_eq_iff.mp hu
    exact hc
  · exact absurd hs (hcancel level rest)
  · rfl

/-- The caller's drive of CANCEL is a step that changes CANCEL alone (R26). -/
theorem step_of_cancel_event {s : State} {level : Bool} {rest : List Event} (h : s.schedule = .cancel level :: rest) :
    step s = .next ((s.takeEvent rest).setCancel level) := by
  simp [step, h, handle]

/-- READ_STATE with a link up answers OK with a copy of the mirror and changes nothing else (R198). -/
theorem exec_readState_of_not_closed {s : State} (h : s.seq ≠ .closed) :
    exec .readState s = .next (s.answeredOnly .readState .ok (some s.mirror)) := by
  simp [exec, execReadState, h, State.answer, State.answeredOnly]

/-- Settles O45: APPLY leaves the passive fields and no other step of a session writes the mirror; READ_STATE's snapshot
is the mirror itself. -/
theorem passiveFieldsNeverWritten : Obligations.PassiveFieldsNeverWritten :=
  ⟨fun _ _ hsame h => (step_keeps_config_and_passive hsame h).2,
    fun s hopen => ⟨s.mirror, exec_readState_of_not_closed hopen, rfl⟩⟩

/-- Settles O46: only a bring-up writes the configuration, and only the caller's own event writes CANCEL. -/
theorem configurationAndCancelNotWritten : Obligations.ConfigurationAndCancelNotWritten :=
  ⟨fun _ _ h => ⟨fun hsame => (step_keeps_config_and_passive hsame h).1, fun hcancel => step_keeps_cancel hcancel h⟩,
    fun _ _ _ => step_of_cancel_event⟩

end Sys2Proof.Machine
end

section
/-! SUPPORT. The order of the channel calls (spec/20_memory.md R51, R61; R252): which phase each state of SEQ leaves
possible, what each step does to the phase, and from that the statement O52. -/

namespace Sys2Proof.Machine

/-- The phases of a session whose `open` succeeded, in which a write may be made (R51, R252). -/
def ChanPhase.linkUp : ChanPhase → Bool
  | .ended => false
  | .failed => false
  | .noReads => true
  | .reads _ => true

/-- With the link up, a write that returned Ok begins a count of read attempts (R61). -/
theorem ChanPhase.next_write_ok {p : ChanPhase} (hp : p.linkUp = true) (bytes : List Byte) :
    p.next (.write bytes .ok) = some (.reads 0) := by
  cases p with
  | ended | failed => cases hp
  | noReads | reads n => rfl

/-- After a failed write no read attempt may be made (R61, R165). -/
theorem ChanPhase.next_write_ioError {p : ChanPhase} (hp : p.linkUp = true) (bytes : List Byte) (sent : Nat) :
    p.next (.write bytes (.ioError sent)) = some .noReads := by
  cases p with
  | ended | failed => cases hp
  | noReads | reads n => rfl

/-! What the order says of a state: where the registers stand tells the phase. -/

variable {s t : State}

/-- A request in flight or held belongs to a session. -/
theorem CallOrder.inSession (h : CallOrder s) (hbusy : s.seq.inFlight = true ∨ s.held ≠ []) : s.inSession = true := by
  obtain ⟨p, -, hfits⟩ := h
  cases p with
  | ended =>
    obtain ⟨-, hflight, hheld⟩ := hfits
    simp [hflight, hheld] at hbusy
  | failed | noReads | reads n => exact hfits.1

/-- In a session that is not CLOSED, `open` succeeded (R252). -/
theorem CallOrder.linkUp (h : CallOrder s) (hsession : s.inSession = true) (hopen : s.seq ≠ .closed) :
    ∃ p, phaseAfter s.calls = some p ∧ p.linkUp = true := by
  obtain ⟨p, hp, hfits⟩ := h
  refine ⟨p, hp, ?_⟩
  cases p with
  | ended => exact absurd hsession (by simp [hfits.1])
  | failed => exact absurd hfits.2 hopen
  | noReads | reads n => rfl

/-- While the block waits for a byte, read attempts may be made, and ATTEMPTS counts them (R25, R61). -/
theorem CallOrder.phase_of_awaiting (h : CallOrder s) (hseq : s.seq = .awaitingByte) :
    phaseAfter s.calls = some (.reads s.attempts) := by
  obtain ⟨p, hp, hfits⟩ := h
  cases p with
  | ended => exact absurd hfits.2.1 (by simp [hseq, Seq.inFlight])
  | failed => exact absurd hfits.2 (by simp [hseq])
  | noReads => exact absurd hseq hfits.2.2
  | reads n =>
    obtain ⟨-, -, hcount⟩ := hfits
    rw [hp, hcount hseq]

/-- Outside a session the last one has ended. -/
theorem CallOrder.phase_of_no_session (h : CallOrder s) (hsession : s.inSession = false) :
    phaseAfter s.calls = some .ended := by
  obtain ⟨p, hp, hfits⟩ := h
  cases p with
  | ended => exact hp
  | failed | noReads | reads n => exact absurd hfits.1 (by simp [hsession])

/-- In a session, whatever was called so far, `close` may be called (R51, R254). -/
theorem CallOrder.phase_after_close (h : CallOrder s) (hsession : s.inSession = true) :
    phaseAfter (s.calls ++ [.closed]) = some .ended := by
  obtain ⟨p, hp, hfits⟩ := h
  rw [phaseAfter_snoc, hp]
  cases p with
  | ended => exact absurd hsession (by simp [hfits.1])
  | failed | noReads | reads n => rfl

/-! How a state comes to meet the order. -/

/-- With the link up and the block not waiting for a byte, the registers fit the phase. -/
theorem callOrder_of_linkUp {p : ChanPhase} (hp : phaseAfter t.calls = some p) (hup : p.linkUp = true)
    (hsession : t.inSession = true) (hopen : t.seq ≠ .closed) (hwait : t.seq ≠ .awaitingByte) : CallOrder t := by
  refine ⟨p, hp, ?_⟩
  cases p with
  | ended | failed => cases hup
  | noReads => exact ⟨hsession, hopen, hwait⟩
  | reads n => exact ⟨hsession, hopen, fun hq => absurd hq hwait⟩

/-- While the block waits for a byte, the order holds when the phase counts ATTEMPTS read attempts. -/
theorem callOrder_of_awaiting (hp : phaseAfter t.calls = some (.reads t.attempts)) (hsession : t.inSession = true)
    (hseq : t.seq = .awaitingByte) : CallOrder t :=
  ⟨_, hp, hsession, by simp [hseq], fun _ => rfl⟩

/-- With no channel call, an open session may move to any SEQ but CLOSED and AWAITING_BYTE. -/
theorem CallOrder.move (h : CallOrder s) (hsession : s.inSession = true) (hopen : s.seq ≠ .closed)
    (hcalls : t.calls = s.calls) (hsame : t.inSession = s.inSession) (htopen : t.seq ≠ .closed)
    (htwait : t.seq ≠ .awaitingByte) : CallOrder t := by
  obtain ⟨p, hp, hup⟩ := h.linkUp hsession hopen
  exact callOrder_of_linkUp (hcalls ▸ hp) hup (hsame.trans hsession) htopen htwait

/-! Taking an event, CANCEL and an answer write nothing that the order speaks of. -/

@[simp] theorem State.takeEvent_callOrder (rest : List Event) : CallOrder (s.takeEvent rest) ↔ CallOrder s := Iff.rfl

@[simp] theorem State.setCancel_callOrder (level : Bool) : CallOrder (s.setCancel level) ↔ CallOrder s := Iff.rfl

@[simp] theorem State.answer_callOrder (i : Instr) (code : Result) (snap : Option RadioState) :
    CallOrder (s.answer i code snap) ↔ CallOrder s := Iff.rfl

/-! Each thing a step can do keeps the order. -/

/-- A request is held only while another is in flight, so a session is going on (R163). -/
theorem CallOrder.hold (h : CallOrder s) (hflight : s.seq.inFlight = true) (r : Request) : CallOrder (s.hold r) := by
  obtain ⟨p, hp, hfits⟩ := h
  refine ⟨p, hp, ?_⟩
  cases p with
  | ended => exact absurd hflight (by simp [hfits.2.1])
  | failed | noReads | reads n => exact hfits

theorem exec_keeps_callOrder {i : Instr} (h : CallOrder s) (hsession : s.inSession = true) (he : exec i s = .next t) :
    CallOrder t := by
  obtain ⟨code, snap, ha, -⟩ | ⟨r, -, -, hflight, -, ha⟩ | ⟨r, -, -, hidle, ha⟩ := exec_cases i s <;>
    obtain rfl := Host.Outcome.next.inj (ha.symm.trans he)
  · exact (State.answer_callOrder i code snap).mpr h
  · exact h.hold hflight r
  · exact h.move hsession (by simp [hidle]) rfl rfl (by simp) (by simp)

theorem serveHeld_keeps_callOrder (h : CallOrder s) (hidle : s.seq = .idle) : CallOrder (serveHeld s) := by
  obtain ⟨-, hs⟩ | ⟨k, r, hk, -, hs⟩ := serveHeld_cases s <;> rw [hs]
  · exact h
  · have hheld : s.held ≠ [] := List.ne_nil_of_length_pos (Nat.zero_lt_of_lt hk)
    exact h.move (h.inSession (.inr hheld)) (by simp [hidle]) rfl rfl (by simp) (by simp)

/-- The write step makes one write; read attempts may follow it exactly when it returned Ok (R61, R165). -/
theorem writeStep_keeps_callOrder (h : CallOrder s) (hsent : s.seq = .sent) (r : Request) :
    CallOrder (writeStep r s) := by
  have hsession := h.inSession (.inl (by simp [hsent, Seq.inFlight]))
  obtain ⟨p, hp, hup⟩ := h.linkUp hsession (by simp [hsent])
  obtain ⟨hw, hs⟩ | ⟨sent, hw, hs⟩ := writeStep_cases r s <;> rw [hs]
  · exact callOrder_of_awaiting (by simp [phaseAfter_snoc, hp, hw, ChanPhase.next_write_ok hup]) hsession rfl
  · exact callOrder_of_linkUp (p := .noReads)
      (by simp [phaseAfter_snoc, hp, hw, ChanPhase.next_write_ioError hup]) rfl hsession (by simp) (by simp)

/-- After a read attempt whose answer ends COLLECT, the block waits no more, and the order allows no further attempt
(R143 to R145). -/
theorem CallOrder.after_ending_read (h : CallOrder s) (hseq : s.seq = .awaitingByte)
    (hends : (ChanPhase.reads s.attempts).next (.read s.nextRead) = some .noReads)
    (hcalls : t.calls = s.calls ++ [.read s.nextRead]) (hsame : t.inSession = s.inSession) (htopen : t.seq ≠ .closed)
    (htwait : t.seq ≠ .awaitingByte) : CallOrder t := by
  have hsession := h.inSession (.inl (by simp [hseq, Seq.inFlight]))
  have hp : phaseAfter t.calls = some .noReads := by
    rw [hcalls, phaseAfter_snoc, h.phase_of_awaiting hseq, Option.bind_some, hends]
  exact callOrder_of_linkUp hp rfl (hsame.trans hsession) htopen htwait

/-- A pass of COLLECT makes at most one read attempt, in a phase that allows it, and waits on only after a byte other than
the terminator (R140, R143 to R146). -/
theorem collectPass_keeps_callOrder (h : CallOrder s) (hseq : s.seq = .awaitingByte) (r : Request) :
    CallOrder (collectPass r s) := by
  have hsession := h.inSession (.inl (by simp [hseq, Seq.inFlight]))
  obtain ⟨-, hs⟩ | ⟨-, -, hs⟩ | ⟨-, -, ⟨ha, hs⟩ | ⟨ha, hs⟩ | ⟨ha, hs⟩ | ⟨b, hb, ha, hs⟩⟩ := collectPass_cases r s <;>
    rw [hs]
  · exact h.move hsession (by simp [hseq]) rfl rfl (by simp) (by simp)
  · exact h.move hsession (by simp [hseq]) rfl rfl (by simp) (by simp)
  · exact h.after_ending_read hseq (by simp [ha, ChanPhase.next]) rfl rfl (by simp) (by simp)
  · exact h.after_ending_read hseq (by simp [ha, ChanPhase.next]) rfl rfl (by simp) (by simp)
  · exact h.after_ending_read hseq (by simp [ha, ChanPhase.next]) rfl rfl (by simp) (by simp)
  · exact callOrder_of_awaiting (by simp [phaseAfter_snoc, h.phase_of_awaiting hseq, ha, ChanPhase.next, hb]) hsession hseq

/-- The completion step calls the channel no more. -/
theorem complete_keeps_callOrder (h : CallOrder s) (hflight : s.seq.inFlight = true) (r : Request) (code : Result) :
    CallOrder (complete r code s) :=
  h.move (h.inSession (.inl hflight)) (fun hq => by simp [hq, Seq.inFlight] at hflight) rfl rfl (by simp [complete])
    (by simp [complete])

theorem advance_keeps_callOrder (h : CallOrder s) (ha : advance s = .next t) : CallOrder t := by
  obtain ⟨-, rfl⟩ | ⟨hq, rfl⟩ | ⟨r, -, hq, rfl⟩ | ⟨r, -, hq, rfl⟩ | ⟨r, -, hq, rfl⟩ | ⟨r, why, -, hq, -, rfl⟩ :=
    advance_cases ha
  · exact h
  · exact serveHeld_keeps_callOrder h hq
  · exact writeStep_keeps_callOrder h hq r
  · exact collectPass_keeps_callOrder h hq r
  · exact complete_keeps_callOrder h (by simp [hq, Seq.inFlight]) r _
  · exact complete_keeps_callOrder h (by simp [hq, Seq.inFlight]) r _

/-- The end of a session is its one `close` (R51, R254). -/
theorem CallOrder.closeChannel (h : CallOrder s) (hsession : s.inSession = true) (hflight : s.seq.inFlight = false) :
    CallOrder s.closeChannel :=
  ⟨.ended, h.phase_after_close hsession, rfl, hflight, rfl⟩

/-- A bring-up is the one `open` of a session, made when the last one has ended (R51, R250, R252). -/
theorem CallOrder.openChannel (h : CallOrder s) (hsession : s.inSession = false) (setup : SessionSetup) (b : Baud) :
    CallOrder (s.openChannel setup b) := by
  have hp := h.phase_of_no_session hsession
  cases ho : setup.openSucceeds with
  | true => exact ⟨.noReads, by simp [phaseAfter_snoc, hp, ho, ChanPhase.next], rfl, by simp [ho], by simp [ho]⟩
  | false => exact ⟨.failed, by simp [phaseAfter_snoc, hp, ho, ChanPhase.next], rfl, by simp [ho]⟩

/-- Settles O52: each thing a step can do makes at most one channel call, and one that the phase before it allows. -/
theorem stepKeepsCallOrder : Obligations.StepKeepsCallOrder := by
  intro s t h hstep
  obtain ⟨-, ha⟩ | ⟨i, rest, -, hsession, he⟩ | ⟨level, rest, -, rfl⟩ | ⟨rest, -, hflight, hsession, rfl⟩ |
    ⟨setup, rest, b, -, hsession, -, -, -, rfl⟩ := step_cases hstep
  · exact advance_keeps_callOrder ((State.takeEvent_callOrder _).mpr h) ha
  · exact exec_keeps_callOrder ((State.takeEvent_callOrder rest).mpr h) hsession he
  · simpa using h
  · exact CallOrder.closeChannel ((State.takeEvent_callOrder rest).mpr h) hsession hflight
  · exact CallOrder.openChannel ((State.takeEvent_callOrder rest).mpr h) hsession setup b

end Sys2Proof.Machine
end

section
/-! SUPPORT. The words of the operations read back (spec/30_encoding.md R79, R80): what decodes is the word `encode` writes,
and the word of arguments in range decodes to its operation; from that and from DECODE's own lemma the statements O4, O6
and O15. -/

namespace Sys2Proof

/-! ### Operand bytes (R76, R77) -/

/-- An argument that fits a byte is the number some byte stands for. -/
theorem exists_byte_of_range {n : Int} (h0 : 0 ≤ n) (h1 : n < 256) : ∃ b : Byte, n = b.toNat := by
  refine ⟨BitVec.ofInt 8 n, ?_⟩
  rw [BitVec.toNat_ofInt]
  omega

/-- The operand byte of the number a byte stands for is that byte. -/
theorem ofInt_toNat_byte (b : Byte) : BitVec.ofInt 8 (b.toNat : Int) = b := by
  rw [BitVec.ofInt_natCast, BitVec.ofNat_toNat, BitVec.setWidth_eq]

theorem encode_gotoMemory_byte (b : Byte) :
    encode (.gotoMemory b.toNat) = [0xFE, 0xFE, 0x88, 0xE0, 0x08, b, 0xFD] := by
  rw [encode, ofInt_toNat_byte]
  rfl

theorem encode_selectBank_byte (b : Byte) :
    encode (.selectBank b.toNat) = [0xFE, 0xFE, 0x88, 0xE0, 0x08, 0xA0, b, 0xFD] := by
  rw [encode, ofInt_toNat_byte]
  rfl

/-! ### What decodes is the word that `encode` writes -/

/-- The bytes of an outbound frame up to its command number, then `tail` (R70, R74). -/
def outboundWord (cmd : Byte) (tail : List Byte) : List Byte :=
  preambleByte :: preambleByte :: xcvrAddr :: ctrlAddr :: cmd :: tail

/-- A frame is its command number with the other fields and the terminator after it. -/
theorem outboundFrame_cons (cmd : Byte) (fields : List Byte) :
    outboundFrame (cmd :: fields) = outboundWord cmd (fields ++ [terminatorByte]) := rfl

theorem encode_of_decodePower {tail : List Byte} {i : Instr} (h : decodePower tail = .ok i) :
    encode i = outboundWord 0x18 tail := by
  unfold decodePower at h
  split at h
  · split_ifs at h <;> cases h <;> simp_all [encode, outboundFrame_cons]
  · cases h

theorem encode_of_decodeMemory {tail : List Byte} {i : Instr} (h : decodeMemory tail = .ok i) :
    encode i = outboundWord 0x08 tail := by
  unfold decodeMemory at h
  split at h
  · split_ifs at h
    cases h
    simp_all [encode, outboundFrame_cons]
  · split_ifs at h
    cases h
    simp_all [encode, outboundFrame_cons]
  · cases h

theorem encode_of_decodeTransmit {tail : List Byte} {i : Instr} (h : decodeTransmit tail = .ok i) :
    encode i = outboundWord 0x1C tail := by
  unfold decodeTransmit at h
  split at h
  · split_ifs at h <;> cases h <;> simp_all [encode, outboundFrame_cons]
  · cases h

theorem encode_of_decodeDataMode {tail : List Byte} {i : Instr} (h : decodeDataMode tail = .ok i) :
    encode i = outboundWord 0x1A tail := by
  unfold decodeDataMode at h
  split at h
  · split_ifs at h <;> cases h <;> simp_all [encode, outboundFrame_cons]
  · cases h

theorem encode_of_decodeAfterCommand {cmd : Byte} {tail : List Byte} {i : Instr}
    (h : decodeAfterCommand cmd tail = .ok i) : encode i = outboundWord cmd tail := by
  unfold decodeAfterCommand at h
  split_ifs at h with hpower hmemory htransmit hdata
  · exact hpower ▸ encode_of_decodePower h
  · exact hmemory ▸ encode_of_decodeMemory h
  · exact htransmit ▸ encode_of_decodeTransmit h
  · exact hdata ▸ encode_of_decodeDataMode h

/-- What decodes to an operation is that operation's word (R79, R80). -/
theorem encode_of_decode {bytes : List Byte} {i : Instr} (h : decode bytes = .ok i) : encode i = bytes := by
  unfold decode at h
  split at h
  · cases h
    rfl
  · split_ifs at h with hpre haddr
    simp only [not_or, not_not] at hpre haddr
    obtain ⟨rfl, rfl⟩ := hpre
    obtain ⟨rfl, rfl⟩ := haddr
    exact encode_of_decodeAfterCommand h
  · cases h

/-! ### The word of arguments in range decodes to its operation -/

/-- The word of an operation with arguments in range decodes to it, every operand kept (R79, R80). -/
theorem decode_encode {i : Instr} (h : i.wellFormed = true) : decode (encode i) = .ok i := by
  cases i with
  | powerOn | powerOff | setReceive | setTransmit | readState => rfl
  | setDataMode on => cases on <;> rfl
  | gotoMemory n =>
    obtain ⟨h1, h2⟩ := of_decide_eq_true h
    obtain ⟨b, rfl⟩ := exists_byte_of_range (n := n) (by omega) (by omega)
    rw [encode_gotoMemory_byte]
    rfl
  | selectBank n =>
    obtain ⟨h1, h2⟩ := of_decide_eq_true h
    obtain ⟨b, rfl⟩ := exists_byte_of_range (n := n) (by omega) (by omega)
    rw [encode_selectBank_byte]
    rfl

/-- For arguments in range, an operation's word is the one byte list that decodes to it. -/
theorem decode_eq_ok_iff {i : Instr} (h : i.wellFormed = true) (bytes : List Byte) :
    decode bytes = .ok i ↔ bytes = encode i :=
  ⟨fun hd => (encode_of_decode hd).symm, fun hb => hb ▸ decode_encode h⟩

/-! ### The bytes of one channel write -/

/-- What the classifier accepts: a wire operation with arguments in range that the bytes decode to, wake-up bytes removed
(R80, R84). -/
theorem classifyWrite_eq_some_iff_decode (bytes : List Byte) (i : Instr) :
    classifyWrite bytes = some i ↔ i.isWire = true ∧ i.wellFormed = true ∧ decode (stripWake bytes) = .ok i := by
  cases hd : decode (stripWake bytes) with
  | error e => simp [classifyWrite, hd]
  | ok j =>
    have hclass : classifyWrite bytes = if j.isWire ∧ j.wellFormed then some j else none := by simp [classifyWrite, hd]
    rw [hclass]
    constructor
    · intro h
      split_ifs at h with hj
      cases h
      exact ⟨hj.1, hj.2, rfl⟩
    · rintro ⟨hwire, hrange, hj⟩
      cases hj
      exact if_pos ⟨hwire, hrange⟩

/-- One channel write is classified as an operation exactly when that is a wire operation with arguments in range and the
bytes are its word, wake-up bytes removed (R80, R84). -/
theorem classifyWrite_eq_some_iff (bytes : List Byte) (i : Instr) :
    classifyWrite bytes = some i ↔ i.isWire = true ∧ i.wellFormed = true ∧ stripWake bytes = encode i := by
  rw [classifyWrite_eq_some_iff_decode]
  exact and_congr_right fun _ => and_congr_right fun hrange => decode_eq_ok_iff hrange _

/-- Settles O6: the bytes are the word of a wire operation with arguments in range, which is the operation's row. -/
theorem writeBytesNameTheOperation : Obligations.WriteBytesNameTheOperation := by
  intro bytes i
  rw [classifyWrite_eq_some_iff]
  constructor
  · rintro ⟨hwire, hrange, hword⟩
    cases i with
    | readState => cases hwire
    | powerOn | powerOff | setReceive | setTransmit =>
      simpa [encode, outboundFrame, preambleByte, xcvrAddr, ctrlAddr, terminatorByte] using hword
    | setDataMode on =>
      cases on <;> simpa [encode, outboundFrame, preambleByte, xcvrAddr, ctrlAddr, terminatorByte] using hword
    | gotoMemory n =>
      obtain ⟨h1, h2⟩ := of_decide_eq_true hrange
      obtain ⟨b, rfl⟩ := exists_byte_of_range (n := n) (by omega) (by omega)
      exact .inr (.inr (.inl ⟨b, by omega, by omega, hword.trans (encode_gotoMemory_byte b), rfl⟩))
    | selectBank n =>
      obtain ⟨h1, h2⟩ := of_decide_eq_true hrange
      obtain ⟨b, rfl⟩ := exists_byte_of_range (n := n) (by omega) (by omega)
      exact .inr (.inr (.inr (.inl ⟨b, by omega, by omega, hword.trans (encode_selectBank_byte b), rfl⟩)))
  · rintro (⟨h, rfl⟩ | ⟨h, rfl⟩ | ⟨b, h1, h2, h, rfl⟩ | ⟨b, h1, h2, h, rfl⟩ | ⟨h, rfl⟩ | ⟨h, rfl⟩ | ⟨h, rfl⟩ | ⟨h, rfl⟩)
    case inr.inr.inl => exact ⟨rfl, decide_eq_true (by omega), h.trans (encode_gotoMemory_byte b).symm⟩
    case inr.inr.inr.inl => exact ⟨rfl, decide_eq_true (by omega), h.trans (encode_selectBank_byte b).symm⟩
    all_goals exact ⟨rfl, rfl, h⟩

end Sys2Proof

namespace Sys2Proof.Machine

/-- Settles O15: of a collected response, DECODE tests what comes before its one terminator. -/
theorem acceptedResponseForm : Obligations.AcceptedResponseForm := by
  rintro _ cmd blob ⟨xs, rfl, hxs⟩
  have hdecode : decodeFrame (xs ++ [0xFD]) 0xE0 0x88 = decodeBody 0xE0 0x88 xs := decodeFrame_append [] _ _ hxs
  rw [hdecode, decodeBody_ok_iff, List.append_left_inj]
  constructor
  · rintro rfl
    simp only [List.mem_append, List.mem_cons, not_or] at hxs
    obtain ⟨⟨-, -, -, -, hcmd, -⟩, hblob⟩ := hxs
    exact ⟨rfl, Ne.symm hcmd, hblob⟩
  · exact And.left

/-- Settles O4: each row is the command the operation builds and what ENCODE makes of it, after the wake-up bytes for
POWER_ON. -/
theorem commandMapOfTheVocabulary : Obligations.CommandMapOfTheVocabulary := fun _ _ =>
  ⟨rfl, rfl, rfl, rfl, rfl, rfl, rfl, rfl, rfl, rfl, rfl, rfl, rfl, rfl, rfl, rfl, rfl⟩

end Sys2Proof.Machine
end

section
/-! SUPPORT. The frame encoder (spec/41_frame_encoder.md): ENCODE reads a Command through its number and its body only,
and the body is the subcommand byte followed by the payload; from that the statements O8 and O10. -/

namespace Sys2Proof.Machine

/-- The empty payload adds no byte, so a body cannot tell it from an absent one (R103). -/
theorem Command.body_emptyPayload (cmd : Byte) (sub : Option Byte) :
    Command.body ⟨cmd, sub, some []⟩ = Command.body ⟨cmd, sub, none⟩ := rfl

/-- ENCODE reads nothing of a Command but its number and its body (R100). -/
theorem encodeFrame_congr {c c' : Command} (hnum : c.cmdNum = c'.cmdNum) (hbody : Command.body c = Command.body c')
    (dest src : Byte) : encodeFrame c dest src = encodeFrame c' dest src := by
  rw [encodeFrame, encodeFrame, hnum, hbody]

/-- Settles O8: the body stands bracketed in ENCODE's frame, and R100 writes its two parts after one another; the
sequencer's address pair is that of R164. -/
theorem encodeFrameBytes : Obligations.EncodeFrameBytes := by
  constructor
  · intro c dest src
    exact congrArg (· ++ [terminatorByte]) (List.append_assoc ..).symm
  · exact fun _ => rfl

/-- Settles O10: the two Commands have one number and one body. -/
theorem absentPayloadIsEmptyPayload : Obligations.AbsentPayloadIsEmptyPayload := fun cmd sub =>
  encodeFrame_congr rfl (Command.body_emptyPayload cmd sub).symm

end Sys2Proof.Machine
end

section
/-! SUPPORT. DECODE by index (spec/42_frame_decoder.md R120, R127, R130): the bytes up to the first terminator are a prefix
of the input, the tests read that prefix by index, and from that the statements O12 and O13. -/

namespace Sys2Proof.Machine

/-- A prefix has a byte at an index when the index lies within it and the list has that byte there. -/
theorem getElem?_take_eq_some_iff {bytes : List Byte} {t i : Nat} {a : Byte} :
    (bytes.take t)[i]? = some a ↔ i < t ∧ bytes[i]? = some a := by
  rw [List.getElem?_take]
  split_ifs with hlt <;> simp [hlt]

/-- Without a terminator DECODE tests nothing else (R122). -/
theorem decodeFrame_of_no_terminator {bytes : List Byte} (d s : Byte) (h : terminatorByte ∉ bytes) :
    decodeFrame bytes d s = .error .truncated := by
  simp [decodeFrame, (beforeTerminator_none_iff bytes).mpr h]

/-- A first terminator at index `t` leaves the first `t` bytes to the tests (R121). -/
theorem decodeFrame_eq_decodeBody_take {bytes : List Byte} {t : Nat} (d s : Byte) (hat : bytes[t]? = some terminatorByte)
    (hfirst : ∀ j, j < t → bytes[j]? ≠ some terminatorByte) :
    decodeFrame bytes d s = decodeBody d s (bytes.take t) := by
  have hnone : terminatorByte ∉ bytes.take t := by
    intro hmem
    obtain ⟨j, hj⟩ := List.mem_iff_getElem?.mp hmem
    obtain ⟨hlt, hj⟩ := getElem?_take_eq_some_iff.mp hj
    exact hfirst j hlt hj
  have hsplit : bytes = bytes.take t ++ terminatorByte :: bytes.drop (t + 1) := by
    obtain ⟨hlt, hget⟩ := List.getElem?_eq_some_iff.mp hat
    rw [← hget, ← List.drop_eq_getElem_cons hlt, List.take_append_drop]
  calc decodeFrame bytes d s
      = decodeFrame (bytes.take t ++ terminatorByte :: bytes.drop (t + 1)) d s := by rw [← hsplit]
    _ = decodeBody d s (bytes.take t) := decodeFrame_append _ d s hnone

/-- The tests on the bytes before the terminator, each by the indices it reads (R123 to R126). -/
theorem decodeBody_eq_ite (d s : Byte) (xs : List Byte) :
    decodeBody d s xs =
      if ¬(xs[0]? = some preambleByte ∧ xs[1]? = some preambleByte) then .error .badPreamble
      else if ¬(xs[2]? = some d ∧ xs[3]? = some s) then .error .badAddressing
      else if xs.length = 4 then .error .truncated
      else .ok { cmdNum := xs.getD 4 0, blob := xs.drop 5 } := by
  rw [ite_not, ite_not]
  match xs with
  | [] | [_] => simp [decodeBody]
  | [_, _] | [_, _, _] => simp [decodeBody, decodeAddressed]
  | [_, _, _, _] => simp [decodeBody, decodeAddressed]
  | p :: p' :: dest :: src :: cmd :: blob => simp [decodeBody, decodeAddressed]

/-- Two bytes of a prefix are known when the prefix reaches past the second and the list has them there. -/
theorem getElem?_take_pair_iff {bytes : List Byte} {t i : Nat} {a b : Byte} :
    (bytes.take t)[i]? = some a ∧ (bytes.take t)[i + 1]? = some b ↔
      i + 2 ≤ t ∧ bytes[i]? = some a ∧ bytes[i + 1]? = some b := by
  simp only [getElem?_take_eq_some_iff]
  constructor
  · rintro ⟨⟨-, ha⟩, hlt, hb⟩
    exact ⟨hlt, ha, hb⟩
  · rintro ⟨hle, ha, hb⟩
    exact ⟨⟨by omega, ha⟩, hle, hb⟩

/-- Settles O12: the bytes before the first terminator at `t` are the first `t`, and each test that reads two of them needs
`t` past both. -/
theorem decodeReportsFirstFailedTest : Obligations.DecodeReportsFirstFailedTest := by
  refine ⟨fun _ d s h => decodeFrame_of_no_terminator d s h, fun bytes d s t hat hfirst => ?_⟩
  have hlen : (bytes.take t).length = t :=
    List.length_take_of_le (List.getElem?_eq_some_iff.mp hat).1.le
  have hpre : (bytes.take t)[0]? = some preambleByte ∧ (bytes.take t)[1]? = some preambleByte ↔
      2 ≤ t ∧ bytes[0]? = some 0xFE ∧ bytes[1]? = some 0xFE := getElem?_take_pair_iff
  have haddr : (bytes.take t)[2]? = some d ∧ (bytes.take t)[3]? = some s ↔
      4 ≤ t ∧ bytes[2]? = some d ∧ bytes[3]? = some s := getElem?_take_pair_iff
  have hcmd (hlt : 4 < t) : (bytes.take t).getD 4 0 = bytes.getD 4 0 := by
    rw [List.getD_eq_getElem?_getD, List.getElem?_take_of_lt hlt, List.getD_eq_getElem?_getD]
  rw [decodeFrame_eq_decodeBody_take d s hat hfirst, decodeBody_eq_ite]
  simp only [hpre, haddr, hlen]
  split_ifs with _ htests hempty
  · rfl
  · rw [hcmd (by omega)]
  · rfl
  · rfl

/-- Settles O13: both inputs have the same bytes before the first terminator. -/
theorem decodeIgnoresTrailingBytes : Obligations.DecodeIgnoresTrailingBytes := by
  intro bytes tail d s h
  obtain ⟨xs, ys, rfl, hxs⟩ := split_at_terminator h
  rw [List.append_assoc, List.cons_append, decodeFrame_append _ d s hxs, decodeFrame_append _ d s hxs]

end Sys2Proof.Machine
end

section
/-! SUPPORT. The packet synchronizer, COLLECT (spec/43_packet_synchronizer.md): the step each SEQ of a request in flight
makes when nothing waits outside, written as a next state, and from that the statements O39, O41 and O42. -/

namespace Sys2Proof.Machine

variable {s t : State} {r : Request}

section stepOfSeq
variable (hsched : s.schedule = []) (hcur : s.cur = some r)
include hsched hcur

/-- In SENT the step is the write step (R164). -/
theorem step_of_sent (hseq : s.seq = .sent) : step s = .next (writeStep r s) := by
  simp [step_of_no_event hsched, advance, hseq, withCurrent, hcur]

/-- In AWAITING_BYTE the step is one pass of COLLECT (R140). -/
theorem step_of_awaitingByte (hseq : s.seq = .awaitingByte) : step s = .next (collectPass r s) := by
  simp [step_of_no_event hsched, advance, hseq, withCurrent, hcur]

/-- In GOT_TERMINATOR the step completes the request with the result of the frame (R164). -/
theorem step_of_gotTerminator (hseq : s.seq = .gotTerminator) :
    step s = .next (complete r (resultOf r (resultOfFrame s.config.ackPredicate r.command s.rxbuf)) s) := by
  simp [step_of_no_event hsched, advance, hseq, withCurrent, hcur]

/-- In TIMED_OUT the step completes the request with the result of the reason (R147, R164). -/
theorem step_of_timedOut (hseq : s.seq = .timedOut) {why : Reason} (hwhy : s.reason = some why) :
    step s = .next (complete r (resultOf r (resultOfTimeout why s.rxbuf)) s) := by
  simp [step_of_no_event hsched, advance, hseq, withCurrent, hcur, hwhy]

end stepOfSeq

/-- What the observer has been told after one more Observe, as a list (R237). -/
theorem State.observe_observed_eq_append (s : State) (d : Direction) (bytes : List Byte) :
    (s.observe d bytes).observed = s.observed ++ observation s d bytes := by
  cases hp : s.config.observerPresent <;> simp [State.observe, observation, hp]

/-- An Observe changes the observer's record alone (R237). -/
theorem State.observe_eq_append (s : State) (d : Direction) (bytes : List Byte) :
    s.observe d bytes = { s with observed := s.observed ++ observation s d bytes } := by
  rw [← s.observe_observed_eq_append]; rfl

/-! ### The start of COLLECT -/

/-- The state COLLECT starts in, when the write's answer stood in the list of answers to come (R141). -/
theorem writeStep_of_writes_ok {more : List WriteAnswer} (hwrites : s.writes = .ok :: more) :
    writeStep r s = { s with seq := .awaitingByte, rxbuf := [], attempts := 0, writes := more
                             calls := s.calls ++ [.write r.out .ok]
                             observed := s.observed ++ observation s .outbound r.out } := by
  have hnext : s.nextWrite = .ok := by simp [State.nextWrite, hwrites]
  simp only [writeStep, hnext, State.observe_eq_append, State.beginCollect, State.chanWrite]
  simp [State.nextWrite, hwrites, drawsAfter]

/-- COLLECT has just started from the write step of `s`: its write returned Ok, RXBUF and ATTEMPTS are cleared (R141). -/
def CollectStarted (s t : State) : Prop :=
  s.seq = .sent ∧ s.nextWrite = .ok ∧ t.rxbuf = [] ∧ t.attempts = 0

@[simp] theorem State.takeEvent_collectStarted (s t : State) (rest : List Event) :
    CollectStarted (s.takeEvent rest) t ↔ CollectStarted s t := Iff.rfl

/-- The write step enters AWAITING_BYTE by starting COLLECT only (R141, R165). -/
theorem collectStarted_of_writeStep (hseq : s.seq = .sent) (ht : (writeStep r s).seq = .awaitingByte) :
    CollectStarted s (writeStep r s) := by
  obtain ⟨hok, hw⟩ | ⟨k, -, hw⟩ := writeStep_cases r s <;> rw [hw] at ht ⊢
  · exact ⟨hseq, hok, rfl, rfl⟩
  · cases ht

/-- The sequencer's own step enters AWAITING_BYTE by starting COLLECT only (R141, R160). -/
theorem collectStarted_of_advance (h : advance s = .next t) (ht : t.seq = .awaitingByte) (hs : s.seq ≠ .awaitingByte) :
    CollectStarted s t := by
  obtain ⟨-, rfl⟩ | ⟨-, rfl⟩ | ⟨r, -, hq, rfl⟩ | ⟨r, -, hq, -⟩ | ⟨r, -, -, rfl⟩ | ⟨r, why, -, -, -, rfl⟩ :=
    advance_cases h
  · exact absurd ht hs
  · obtain ⟨-, hh⟩ | ⟨k, r, -, -, hh⟩ := serveHeld_cases s <;> rw [hh] at ht
    · exact absurd ht hs
    · cases ht
  · exact collectStarted_of_writeStep hq ht
  · exact absurd hq hs
  · cases ht
  · cases ht

/-- No operation on the port enters AWAITING_BYTE (R161). -/
theorem awaitingByte_of_exec {i : Instr} (h : exec i s = .next t) (ht : t.seq = .awaitingByte) :
    s.seq = .awaitingByte := by
  obtain ⟨code, snap, he, -⟩ | ⟨r, -, -, -, -, he⟩ | ⟨r, -, -, -, he⟩ := exec_cases i s <;>
    obtain rfl := Host.Outcome.next.inj (he.symm.trans h)
  · exact ht
  · exact ht
  · cases ht

/-- A bring-up ends in IDLE or CLOSED (R250). -/
theorem State.openChannel_not_awaitingByte (s : State) (setup : SessionSetup) (b : Baud) :
    (s.openChannel setup b).seq ≠ .awaitingByte := by
  cases ho : setup.openSucceeds <;> simp [ho]

/-- A step enters AWAITING_BYTE by starting COLLECT only: no event of the outside does (R141). -/
theorem collectStarted_of_step (h : step s = .next t) (ht : t.seq = .awaitingByte) (hs : s.seq ≠ .awaitingByte) :
    CollectStarted s t := by
  obtain ⟨-, ha⟩ | ⟨i, rest, -, -, he⟩ | ⟨level, rest, -, rfl⟩ | ⟨rest, -, -, -, rfl⟩ |
    ⟨setup, rest, b, -, -, -, -, -, rfl⟩ := step_cases h
  · exact (State.takeEvent_collectStarted s t _).mp (collectStarted_of_advance ha ht hs)
  · exact absurd (awaitingByte_of_exec he ht) hs
  · exact absurd ht hs
  · exact absurd ht hs
  · exact absurd ht (State.openChannel_not_awaitingByte _ setup b)

/-- Settles O39: the write step starts COLLECT when its write returned Ok, and nothing else enters AWAITING_BYTE. -/
theorem collectStartsAfterWrite : Obligations.CollectStartsAfterWrite :=
  ⟨fun _ _ _ hsched hseq hcur hwrites =>
    (step_of_sent hsched hcur hseq).trans (congrArg _ (writeStep_of_writes_ok hwrites)),
    fun _ _ => collectStarted_of_step⟩

/-! ### One pass of COLLECT -/

/-- COLLECT's end with TIMED_OUT as a next state (R140, R237). -/
theorem State.endTimedOut_eq (s : State) (why : Reason) :
    s.endTimedOut why = { s with seq := .timedOut, reason := some why
                                 observed := s.observed ++ observation s .inbound s.rxbuf } := by
  rw [State.endTimedOut, State.observe_eq_append]

/-- COLLECT's end with GOT_TERMINATOR as a next state (R143, R237). -/
theorem State.endTerminated_eq (s : State) :
    s.endTerminated = { s with seq := .gotTerminator
                               observed := s.observed ++ observation s .inbound s.rxbuf } := by
  rw [State.endTerminated, State.observe_eq_append]

/-- A read attempt leaves the state the statements name `afterAttempt` (R25, R53). -/
theorem State.attemptRead_eq_afterAttempt (s : State) : s.attemptRead = s.afterAttempt := rfl

/-- Settles O41: the pass is CANCEL, the bound, then one read attempt, by the branches of `collectPass_cases`. -/
theorem collectPassFollowsTheLoop : Obligations.CollectPassFollowsTheLoop := by
  intro s r hsched hseq hcur
  rw [step_of_awaitingByte hsched hcur hseq]
  obtain ⟨hc, hp⟩ | ⟨hc, ha, hp⟩ | ⟨hc, ha, ⟨hn, hp⟩ | ⟨hn, hp⟩ | ⟨hn, hp⟩ | ⟨b, hb, hn, hp⟩⟩ := collectPass_cases r s <;>
    rw [hp]
  · rw [if_pos hc, State.endTimedOut_eq]
  · rw [if_neg (by simp [hc]), if_pos ha, State.endTimedOut_eq]
  · rw [if_neg (by simp [hc]), if_neg ha, hn, State.observe_eq_append]
    rfl
  · rw [if_neg (by simp [hc]), if_neg ha, hn, State.endTimedOut_eq]
    rfl
  · rw [if_neg (by simp [hc]), if_neg ha, hn, State.endTerminated_eq]
    rfl
  · have hb' : b ≠ 0xFD := hb
    simp only [hc, ha, hn, hb', if_false, Bool.false_eq_true]
    rfl

/-! ### The result code for each end of COLLECT -/

/-- The completion step ends the request; the mirror is written when the code is OK (R164, R169, R172). -/
theorem complete_eq_endedWith (r : Request) (code : Result) (s : State) :
    complete r code s = s.endedWith r code (if code = .ok then applyTo r.request s.mirror else s.mirror) := rfl

/-- On any other code than OK the completion step leaves the mirror (R169). -/
theorem complete_of_ne_ok {code : Result} (hcode : code ≠ .ok) (r : Request) (s : State) :
    complete r code s = s.endedWith r code s.mirror := by
  rw [complete_eq_endedWith, if_neg hcode]

/-- A request other than POWER_ON is answered what was judged (R164). -/
theorem resultOf_of_ne_powerOn (hr : r.request ≠ .powerOn) (judged : Result) : resultOf r judged = judged := by
  unfold resultOf
  split
  case h_1 hp => exact absurd hp hr
  all_goals rfl

/-- POWER_ON is answered OK_BEST_EFFORT whatever was judged (R191). -/
theorem resultOf_of_powerOn (hr : r.request = .powerOn) (judged : Result) : resultOf r judged = .okBestEffort := by
  simp [resultOf, hr]

section ends
variable (hsched : s.schedule = []) (hcur : s.cur = some r)
include hsched hcur

/-- A terminated response ends a request other than POWER_ON with the result of its frame (R147, R164). -/
theorem step_of_judged_frame (hseq : s.seq = .gotTerminator) (hr : r.request ≠ .powerOn) {code : Result}
    (hcode : resultOfFrame s.config.ackPredicate r.command s.rxbuf = code) :
    step s = .next (s.endedWith r code (if code = .ok then applyTo r.request s.mirror else s.mirror)) := by
  rw [step_of_gotTerminator hsched hcur hseq, resultOf_of_ne_powerOn hr, hcode, complete_eq_endedWith]

/-- A time-out ends a request other than POWER_ON with the result of its reason, which is never OK (R147). -/
theorem step_of_judged_timeout (hseq : s.seq = .timedOut) (hr : r.request ≠ .powerOn) {why : Reason} {code : Result}
    (hwhy : s.reason = some why) (hcode : resultOfTimeout why s.rxbuf = code) (hok : code ≠ .ok) :
    step s = .next (s.endedWith r code s.mirror) := by
  rw [step_of_timedOut hsched hcur hseq hwhy, resultOf_of_ne_powerOn hr, hcode, complete_of_ne_ok hok]

/-- POWER_ON ends with OK_BEST_EFFORT on a terminated response and on every time-out (R147, R191). -/
theorem step_of_powerOn_collected (hr : r.request = .powerOn)
    (hend : s.seq = .gotTerminator ∨ (s.seq = .timedOut ∧ s.reason ≠ none)) :
    step s = .next (s.endedWith r .okBestEffort s.mirror) := by
  obtain hseq | ⟨hseq, hreason⟩ := hend
  · rw [step_of_gotTerminator hsched hcur hseq, resultOf_of_powerOn hr, complete_of_ne_ok (by decide)]
  · obtain ⟨why, hwhy⟩ := Option.ne_none_iff_exists'.mp hreason
    rw [step_of_timedOut hsched hcur hseq hwhy, resultOf_of_powerOn hr, complete_of_ne_ok (by decide)]

/-- A read attempt that returns IOError ends the request with IO_ERROR (R145). -/
theorem step_of_read_ioError (hseq : s.seq = .awaitingByte) (hcancel : s.cancel = false)
    (hbound : s.attempts ≠ s.config.maxReadAttempts) (hread : s.nextRead = .ioError) :
    step s = .next ((s.attemptRead.observe .inbound s.rxbuf).finish r .ioError) := by
  simp [step_of_awaitingByte hsched hcur hseq, collectPass, hcancel, hbound, hread]

end ends

/-- The result of a frame DECODE refuses (R147, R166). -/
theorem resultOfFrame_of_error {a : AckPredicate} {c : Command} {rx : List Byte} {e : FrameError}
    (h : decodeFrame rx ctrlAddr xcvrAddr = .error e) :
    resultOfFrame a c rx = match e with
      | .badPreamble => .badPreamble
      | .badAddressing => .badAddressing
      | .truncated => .truncated := by
  cases e <;> simp [resultOfFrame, h]

/-- The result of a frame DECODE accepts is ACK_PREDICATE's (R166). -/
theorem resultOfFrame_of_ok {a : AckPredicate} {c : Command} {rx : List Byte} {p : ParsedFrame}
    (h : decodeFrame rx ctrlAddr xcvrAddr = .ok p) :
    resultOfFrame a c rx = if ackAccepts a c p then .ok else .notAcknowledged := by
  simp [resultOfFrame, h]

/-- Settles O42: one line a row of R147's table. -/
theorem outcomeMapping : Obligations.OutcomeMapping := by
  intro s r hsched hcur
  refine ⟨fun hseq hr => ?_, fun hseq hr => ?_, step_of_powerOn_collected hsched hcur, fun hseq hcancel hbound hread =>
    ⟨_, step_of_read_ioError hsched hcur hseq hcancel hbound hread, rfl, rfl, rfl⟩⟩
  · have judged {code : Result} (h : resultOfFrame s.config.ackPredicate r.command s.rxbuf = code) :=
      step_of_judged_frame hsched hcur hseq hr h
    exact ⟨fun h => judged (resultOfFrame_of_error h), fun h => judged (resultOfFrame_of_error h),
      fun h => judged (resultOfFrame_of_error h),
      fun p h hack => judged (by rw [resultOfFrame_of_ok h, if_pos hack]),
      fun p h hack => judged (by rw [resultOfFrame_of_ok h, hack, if_neg Bool.false_ne_true])⟩
  · have timedOut {why : Reason} {code : Result} (hwhy : s.reason = some why) :=
      step_of_judged_timeout (code := code) hsched hcur hseq hr hwhy
    refine ⟨fun hwhy hlen => ?_, fun hwhy hlen => ?_, fun hwhy => ?_, fun hwhy => ?_⟩
    · exact timedOut hwhy (if_pos (List.length_eq_zero_iff.mp hlen)) (by decide)
    · exact timedOut hwhy (if_neg (List.ne_nil_of_length_pos hlen)) (by decide)
    · exact timedOut hwhy rfl (by decide)
    · exact timedOut hwhy rfl (by decide)

end Sys2Proof.Machine
end

section
/-! SUPPORT. The request port's tests (spec/44_command_response_matcher.md R161, R162) written as next states, and from
that the statements O25 and O27. -/

namespace Sys2Proof.Machine

/-- A request in flight means the link is up (R22). -/
theorem Seq.ne_closed_of_inFlight {q : Seq} (h : q.inFlight = true) : q ≠ .closed := by
  rintro rfl
  cases h

/-- Settles O25: each thing the port can do with a wire request is the branch of the tests that its conditions lead to. -/
theorem requestTestsInOrder : Obligations.RequestTestsInOrder := by
  refine ⟨fun s i r hr => ?_, fun _ => rfl⟩
  obtain rfl := requestOf_request hr
  rw [exec_of_requestOf hr]
  obtain ⟨hclosed, h⟩ | ⟨hopen, hrange, h⟩ | ⟨hflight, hrange, hpolicy, h⟩ | ⟨hflight, hrange, hpolicy, h⟩ |
    ⟨hidle, hrange, h⟩ := presentWire_cases r r.request.wellFormed s <;> rw [h]
  · rw [if_pos hclosed]
    rfl
  · rw [if_neg hopen, if_pos hrange]
    rfl
  · rw [if_neg (Seq.ne_closed_of_inFlight hflight), if_neg (by simp [hrange]), if_pos hflight, hpolicy]
    rfl
  · rw [if_neg (Seq.ne_closed_of_inFlight hflight), if_neg (by simp [hrange]), if_pos hflight, hpolicy]
    rfl
  · rw [if_neg (by simp [hidle]), if_neg (by simp [hrange]), if_neg (by simp [hidle, Seq.inFlight])]
    rfl

/-- Settles O27: the request passes the first two tests and meets the third (R161). -/
theorem busyRequestRejected : Obligations.BusyRequestRejected := by
  intro s i hwire hrange hflight hpolicy
  obtain ⟨r, hr⟩ := requestOf_of_isWire s.config.baud hwire
  rw [requestTestsInOrder.1 s i r hr, if_neg (Seq.ne_closed_of_inFlight hflight), if_neg (by simp [hrange]),
    if_pos hflight, hpolicy]

/-- In IDLE a wire operation with arguments in range is accepted (R161, R164). -/
theorem exec_of_idle {s : State} {i : Instr} {r : Request} (hr : requestOf s.config.baud i = some r)
    (hrange : i.wellFormed = true) (hidle : s.seq = .idle) : exec i s = .next (s.accept r) := by
  rw [exec_of_requestOf hr]
  simp [presentWire, hrange, hidle, Seq.inFlight]

end Sys2Proof.Machine
end

section
/-! SUPPORT. The command-response matcher (spec/44_command_response_matcher.md): a failed write, RESULT_OF as one equation,
what writes the mirror, what CANCEL changes, and a confirmed request from its acceptance to its answer; from that the
statements O40, O43, O44 and O58. -/

namespace Sys2Proof.Machine

variable {s t : State} {r : Request}

/-! ### A failed write -/

/-- The state a failed write ends in, when the write's answer stood in the list of answers to come (R165). -/
theorem writeStep_of_writes_ioError {k : Nat} {more : List WriteAnswer} (hwrites : s.writes = .ioError k :: more) :
    writeStep r s = { s with seq := .idle, cur := none, rxbuf := [], attempts := 0, reason := none, writes := more
                             calls := s.calls ++ [.write r.out (.ioError k)]
                             observed := s.observed ++ observation s .outbound r.out
                             answers := s.answers ++ [⟨r.request, .ioError, none⟩] } := by
  have hnext : s.nextWrite = .ioError k := by simp [State.nextWrite, hwrites]
  simp only [writeStep, hnext, State.observe_eq_append, State.finish, State.chanWrite]
  simp [State.nextWrite, hwrites, drawsAfter]

/-- One more channel call adds the bytes it sent to the TX stream (R50, R52). -/
theorem State.txStream_of_calls {c : ChanCall} (h : t.calls = s.calls ++ [c]) :
    t.txStream = s.txStream ++ c.sentBytes := by
  simp [State.txStream, h]

/-- Settles O40: the write step's one call is the failed write, which sent the bytes it says and no more. -/
theorem writeFailureEndsRequest : Obligations.WriteFailureEndsRequest := by
  intro s r more k hsched hseq hcur hwrites
  refine ⟨_, step_of_sent hsched hcur hseq, ?_, writeStep_of_writes_ioError hwrites⟩
  rw [writeStep_of_writes_ioError hwrites]
  exact State.txStream_of_calls (c := .write r.out (.ioError k)) rfl

/-! ### RESULT_OF -/

/-- RESULT_OF: POWER_ON's own code, and what was judged for every other operation (R164, R191). -/
theorem resultOf_eq_ite (r : Request) (judged : Result) :
    resultOf r judged = if r.request = .powerOn then .okBestEffort else judged := by
  split_ifs with hr
  · exact resultOf_of_powerOn hr judged
  · exact resultOf_of_ne_powerOn hr judged

/-- RESULT_OF answers OK only where OK was judged (R164, R191). -/
theorem eq_ok_of_resultOf {judged : Result} (h : resultOf r judged = .ok) : judged = .ok := by
  rw [resultOf_eq_ite] at h
  split_ifs at h
  exact h

/-- A terminated response is judged OK when DECODE accepts it and ACK_PREDICATE accepts what it decodes to (R166). -/
theorem resultOfFrame_eq_ok_iff {a : AckPredicate} {c : Command} {rx : List Byte} :
    resultOfFrame a c rx = .ok ↔ ∃ p, decodeFrame rx ctrlAddr xcvrAddr = .ok p ∧ ackAccepts a c p = true := by
  cases hd : decodeFrame rx ctrlAddr xcvrAddr with
  | error e => cases e <;> simp [resultOfFrame_of_error hd]
  | ok p => simp [resultOfFrame_of_ok hd]

/-- A time-out is never judged OK (R147). -/
theorem resultOfTimeout_ne_ok (why : Reason) (rx : List Byte) : resultOfTimeout why rx ≠ .ok := by
  cases why with
  | silent => by_cases hrx : rx = [] <;> simp [resultOfTimeout, hrx]
  | exhausted | cancelled => simp [resultOfTimeout]

/-! ### What writes the mirror -/

/-- No operation on the port writes the mirror (R161, R169). -/
theorem exec_mirror {i : Instr} (h : exec i s = .next t) : t.mirror = s.mirror := by
  obtain ⟨code, snap, he, -⟩ | ⟨r, -, -, -, -, he⟩ | ⟨r, -, -, -, he⟩ := exec_cases i s <;>
  · obtain rfl := Host.Outcome.next.inj (he.symm.trans h)
    rfl

theorem serveHeld_mirror (s : State) : (serveHeld s).mirror = s.mirror := by
  obtain ⟨-, hh⟩ | ⟨k, r, -, -, hh⟩ := serveHeld_cases s <;> simp [hh]

theorem writeStep_mirror (r : Request) (s : State) : (writeStep r s).mirror = s.mirror := by
  obtain ⟨-, hw⟩ | ⟨k, -, hw⟩ := writeStep_cases r s <;> simp [hw]

theorem collectPass_mirror (r : Request) (s : State) : (collectPass r s).mirror = s.mirror := by
  obtain ⟨-, hp⟩ | ⟨-, -, hp⟩ | ⟨-, -, ⟨-, hp⟩ | ⟨-, hp⟩ | ⟨-, hp⟩ | ⟨b, -, -, hp⟩⟩ := collectPass_cases r s <;>
    simp [hp]

/-- A completion step that changes the mirror answers OK (R169). -/
theorem eq_ok_of_complete_mirror_ne {code : Result} (h : (complete r code s).mirror ≠ s.mirror) : code = .ok := by
  by_contra hcode
  exact h (by rw [complete_of_ne_ok hcode]; rfl)

/-- The step from `s` to `t` completes a request confirmed by its response: DECODE and ACK_PREDICATE accept RXBUF, the
answer is OK, and the mirror is the operation's APPLY (R166, R169, R170). -/
def ConfirmedCompletion (s t : State) : Prop :=
  ∃ r p, s.cur = some r ∧ s.seq = .gotTerminator ∧ t.seq = .idle ∧ t.mirror = applyTo r.request s.mirror ∧
    t.answers = s.answers ++ [⟨r.request, .ok, none⟩] ∧ decodeFrame s.rxbuf ctrlAddr xcvrAddr = .ok p ∧
    ackAccepts s.config.ackPredicate r.command p = true

@[simp] theorem State.takeEvent_confirmedCompletion (s t : State) (rest : List Event) :
    ConfirmedCompletion (s.takeEvent rest) t ↔ ConfirmedCompletion s t := Iff.rfl

/-- In GOT_TERMINATOR, a completion step that changes the mirror is a confirmed one. -/
theorem confirmedCompletion_of_complete (hcur : s.cur = some r) (hseq : s.seq = .gotTerminator)
    (hne : (complete r (resultOf r (resultOfFrame s.config.ackPredicate r.command s.rxbuf)) s).mirror ≠ s.mirror) :
    ConfirmedCompletion s (complete r (resultOf r (resultOfFrame s.config.ackPredicate r.command s.rxbuf)) s) := by
  have hok := eq_ok_of_complete_mirror_ne hne
  obtain ⟨p, hp, hack⟩ := resultOfFrame_eq_ok_iff.mp (eq_ok_of_resultOf hok)
  rw [hok]
  exact ⟨r, p, hcur, hseq, rfl, rfl, rfl, hp, hack⟩

/-- The sequencer's own step writes the mirror in a confirmed completion only (R169, R170). -/
theorem confirmedCompletion_of_advance (h : advance s = .next t) (hne : t.mirror ≠ s.mirror) :
    ConfirmedCompletion s t := by
  obtain ⟨-, rfl⟩ | ⟨-, rfl⟩ | ⟨r, -, -, rfl⟩ | ⟨r, -, -, rfl⟩ | ⟨r, hcur, hseq, rfl⟩ | ⟨r, why, -, -, -, rfl⟩ :=
    advance_cases h
  · exact absurd rfl hne
  · exact absurd (serveHeld_mirror s) hne
  · exact absurd (writeStep_mirror r s) hne
  · exact absurd (collectPass_mirror r s) hne
  · exact confirmedCompletion_of_complete hcur hseq hne
  · exact absurd (eq_ok_of_resultOf (eq_ok_of_complete_mirror_ne hne)) (resultOfTimeout_ne_ok why s.rxbuf)

/-- Settles O44: of a session's steps only the sequencer's own can write the mirror, and that in a confirmed completion. -/
theorem mirrorWrittenOnlyOnOk : Obligations.MirrorWrittenOnlyOnOk := by
  intro s t hsame h hne
  obtain ⟨-, ha⟩ | ⟨i, rest, -, -, he⟩ | ⟨level, rest, -, rfl⟩ | ⟨rest, -, -, -, rfl⟩ | ⟨setup, rest, b, hs, -⟩ :=
    step_cases h
  · exact (State.takeEvent_confirmedCompletion s t _).mp (confirmedCompletion_of_advance ha hne)
  · exact absurd (exec_mirror he) hne
  · exact absurd rfl hne
  · exact absurd rfl hne
  · exact absurd hs (hsame.2 setup rest)

/-! ### CANCEL -/

/-- A cancelled pass of COLLECT ends it with no read attempt (R142, R171). -/
theorem collectPass_of_cancel (hcancel : s.cancel = true) (r : Request) :
    collectPass r s = s.endTimedOut .cancelled := by
  simp [collectPass, hcancel]

/-! Outside COLLECT the sequencer does not read CANCEL (R142). -/

theorem serveHeld_setCancel (s : State) (level : Bool) :
    serveHeld (s.setCancel level) = (serveHeld s).setCancel level := by
  simp only [serveHeld, State.setCancel_held, State.setCancel_nextPick]
  split <;> rfl

theorem writeStep_setCancel (r : Request) (s : State) (level : Bool) :
    writeStep r (s.setCancel level) = (writeStep r s).setCancel level := by
  simp only [writeStep, State.setCancel_nextWrite]
  split <;> rfl

theorem complete_setCancel (r : Request) (code : Result) (s : State) (level : Bool) :
    complete r code (s.setCancel level) = (complete r code s).setCancel level := rfl

/-- In every SEQ but AWAITING_BYTE the sequencer's own step is the same whatever CANCEL's level (R142). -/
theorem advance_setCancel (hseq : s.seq ≠ .awaitingByte) (level : Bool) (h : advance s = .next t) :
    advance (s.setCancel level) = .next (t.setCancel level) := by
  obtain ⟨hq, rfl⟩ | ⟨hq, rfl⟩ | ⟨r, hcur, hq, rfl⟩ | ⟨r, -, hq, -⟩ | ⟨r, hcur, hq, rfl⟩ |
    ⟨r, why, hcur, hq, hwhy, rfl⟩ := advance_cases h
  · simp [advance, hq]
  · simp [advance, hq, serveHeld_setCancel]
  · simp [advance, hq, withCurrent, hcur, writeStep_setCancel]
  · exact absurd hq hseq
  · simp [advance, hq, withCurrent, hcur, complete_setCancel]
  · simp [advance, hq, withCurrent, hcur, hwhy, complete_setCancel]

/-- The completion step after a cancelled pass answers TIMEOUT, or POWER_ON's code, and leaves the mirror (R147, R171). -/
theorem step_of_cancelled (hsched : s.schedule = []) (hcur : s.cur = some r) (hseq : s.seq = .timedOut)
    (hwhy : s.reason = some .cancelled) :
    step s = .next (s.endedWith r (if r.request = .powerOn then .okBestEffort else .timeout) s.mirror) := by
  rw [step_of_timedOut hsched hcur hseq hwhy, resultOf_eq_ite, resultOfTimeout, complete_of_ne_ok]
  split_ifs <;> decide

/-- Settles O43: CANCEL is the first test of a pass of COLLECT, and no other step reads it. -/
theorem cancelEndsTheReadLoop : Obligations.CancelEndsTheReadLoop := by
  refine ⟨fun s r hsched hseq hcur hcancel => ?_, fun s level hseq t h => advance_setCancel hseq level h⟩
  have hpass : step s = .next (s.endTimedOut .cancelled) := by
    rw [step_of_awaitingByte hsched hcur hseq, collectPass_of_cancel hcancel]
  have hend := step_of_cancelled (s := s.endTimedOut .cancelled) hsched hcur rfl rfl
  exact ⟨_, _, hpass, rfl, rfl, hend, rfl, rfl, rfl, rfl, rfl⟩

/-! ### A confirmed request -/

/-- The bytes of a response frame before its terminator (R86). -/
def responseBody (cmd : Byte) (blob : List Byte) : List Byte :=
  [preambleByte, preambleByte, ctrlAddr, xcvrAddr, cmd] ++ blob

theorem responseFrame_eq_responseBody (cmd : Byte) (blob : List Byte) :
    responseFrame cmd blob = responseBody cmd blob ++ [terminatorByte] := rfl

theorem terminatorByte_notMem_responseBody {cmd : Byte} {blob : List Byte} (h : terminatorByte ∉ cmd :: blob) :
    terminatorByte ∉ responseBody cmd blob := by
  simpa [responseBody, terminatorByte, preambleByte, ctrlAddr, xcvrAddr] using h

/-- What a response frame decodes to (R86, R126). -/
theorem decodeFrame_responseFrame {cmd : Byte} {blob : List Byte} (h : terminatorByte ∉ cmd :: blob) :
    decodeFrame (responseFrame cmd blob) ctrlAddr xcvrAddr = .ok ⟨cmd, blob⟩ :=
  (decodeFrame_append [] ctrlAddr xcvrAddr (terminatorByte_notMem_responseBody h)).trans
    ((decodeBody_ok_iff ..).mpr rfl)

/-- A read attempt whose answer is a byte, when it stands next in the answers to come, leaves that byte collected. -/
theorem State.pushByte_attemptRead {b : Byte} {rest : List ReadAnswer} (hreads : s.reads = .byte b :: rest) :
    s.attemptRead.pushByte b = s.collected [b] := by
  simp [State.collected, State.attemptRead, State.pushByte, State.chanRead, State.nextRead, hreads, drawsAfter]

/-- A pass of COLLECT that reads the terminator, when it stands next in the answers to come (R143). -/
theorem step_of_read_terminator {rest : List ReadAnswer} (hsched : s.schedule = []) (hcur : s.cur = some r)
    (hseq : s.seq = .awaitingByte) (hcancel : s.cancel = false) (hbound : s.attempts ≠ s.config.maxReadAttempts)
    (hreads : s.reads = .byte terminatorByte :: rest) : step s = .next (s.collected [terminatorByte]).endTerminated := by
  have hnext : s.nextRead = .byte terminatorByte := by simp [State.nextRead, hreads]
  rw [step_of_awaitingByte hsched hcur hseq, ← State.pushByte_attemptRead hreads]
  simp [collectPass, hcancel, hbound, hnext]

/-- Reading on from where COLLECT stands reads the bytes one after another. -/
theorem State.collected_append (s : State) (xs ys : List Byte) :
    (s.collected xs).collected ys = s.collected (xs ++ ys) := by
  simp [State.collected, Nat.add_assoc]

/-- Left alone and not cancelled, COLLECT reads a terminated response one byte a step, as far as the bound allows. -/
theorem runSteps_terminated (bytes : List Byte) (s : State) (rest : List ReadAnswer) (k : Nat)
    (hsched : s.schedule = []) (hseq : s.seq = .awaitingByte) (hcur : s.cur = some r) (hcancel : s.cancel = false)
    (hreads : s.reads = bytes.map .byte ++ .byte terminatorByte :: rest) (hterm : terminatorByte ∉ bytes)
    (hbound : s.attempts + bytes.length < s.config.maxReadAttempts) :
    runSteps (bytes.length + (k + 1)) s = runSteps k (s.collected (bytes ++ [terminatorByte])).endTerminated := by
  have hleft : (s.collected bytes).reads = .byte terminatorByte :: rest := by simp [State.collected, hreads]
  have hlast := step_of_read_terminator (s := s.collected bytes) hsched hcur hseq hcancel hbound.ne hleft
  rw [runSteps_collected bytes s _ (k + 1) hsched hseq hcur hcancel hreads hterm hbound.le, runSteps_succ hlast,
    State.collected_append]

/-- The completion step of a confirmed response answers OK, or POWER_ON's code, and the mirror is the operation's APPLY,
which for POWER_ON changes nothing (R166, R169, R191). -/
theorem step_of_confirmed {p : ParsedFrame} (hsched : s.schedule = []) (hcur : s.cur = some r)
    (hseq : s.seq = .gotTerminator) (hdecode : decodeFrame s.rxbuf ctrlAddr xcvrAddr = .ok p)
    (hack : ackAccepts s.config.ackPredicate r.command p = true) :
    step s = .next (s.endedWith r (if r.request = .powerOn then .okBestEffort else .ok) (applyTo r.request s.mirror)) := by
  by_cases hr : r.request = .powerOn
  · rw [step_of_powerOn_collected hsched hcur hr (.inl hseq), if_pos hr, hr]
    rfl
  · rw [step_of_judged_frame hsched hcur hseq hr (resultOfFrame_eq_ok_iff.mpr ⟨p, hdecode, hack⟩), if_neg hr, if_pos rfl]

/-- From the start of COLLECT, a response frame that ACK_PREDICATE accepts ends the request after one pass a byte and the
completion step (R164, R166, R169). -/
theorem runSteps_confirmed {cmd : Byte} {blob : List Byte} {rest : List ReadAnswer} (hsched : s.schedule = [])
    (hseq : s.seq = .awaitingByte) (hcur : s.cur = some r) (hcancel : s.cancel = false) (hrxbuf : s.rxbuf = [])
    (hattempts : s.attempts = 0) (hreads : s.reads = (responseFrame cmd blob).map .byte ++ rest)
    (hterm : terminatorByte ∉ cmd :: blob) (hbound : (responseFrame cmd blob).length ≤ s.config.maxReadAttempts)
    (hack : ackAccepts s.config.ackPredicate r.command ⟨cmd, blob⟩ = true) :
    runSteps (blob.length + 7) s = .next ((s.collected (responseFrame cmd blob)).endTerminated.endedWith r
      (if r.request = .powerOn then .okBestEffort else .ok) (applyTo r.request s.mirror)) := by
  rw [responseFrame_eq_responseBody, List.length_append, List.length_singleton] at hbound
  have hpasses := runSteps_terminated (responseBody cmd blob) s rest 1 hsched hseq hcur hcancel
    (by simp [hreads, responseFrame_eq_responseBody]) (terminatorByte_notMem_responseBody hterm) (by omega)
  have hdecode : decodeFrame (s.collected (responseFrame cmd blob)).endTerminated.rxbuf ctrlAddr xcvrAddr =
      .ok ⟨cmd, blob⟩ := by
    simpa [State.collected, hrxbuf] using decodeFrame_responseFrame hterm
  have hlast := step_of_confirmed (s := (s.collected (responseFrame cmd blob)).endTerminated) hsched hcur rfl hdecode hack
  have hlen : blob.length + 7 = (responseBody cmd blob).length + (1 + 1) := by
    simp only [responseBody, List.length_append, List.length_cons, List.length_nil]
    omega
  rw [hlen, hpasses]
  exact (runSteps_succ hlast).trans (runSteps_zero _)

/-- The state in which a request accepted in `s` waits for its response, `more` being the writes' answers left (R141). -/
def State.awaitingResponse (s : State) (r : Request) (more : List WriteAnswer) : State :=
  { s with seq := .awaitingByte, cur := some r, rxbuf := [], attempts := 0, writes := more
           calls := s.calls ++ [.write r.out .ok], observed := s.observed ++ observation s .outbound r.out }

/-- The step after the acceptance is the write, and COLLECT starts (R141, R164). -/
theorem step_accept_of_writes_ok {more : List WriteAnswer} (hsched : s.schedule = []) (hwrites : s.writes = .ok :: more) :
    step (s.accept r) = .next (s.awaitingResponse r more) :=
  collectStartsAfterWrite.1 (s.accept r) r more hsched rfl rfl hwrites

/-- Settles O58: the acceptance, the write, and COLLECT of the response frame with its completion. -/
theorem confirmedRoundTrip : Obligations.ConfirmedRoundTrip := by
  intro i s r cmd blob more rest hr hrange hidle hsched hcancel hwrites hreads hterm hbound hack
  obtain rfl := requestOf_request hr
  refine ⟨s.accept r, exec_of_idle hr hrange hidle, ?_⟩
  have hcollect := runSteps_confirmed (s := s.awaitingResponse r more) hsched rfl rfl hcancel rfl rfl hreads hterm hbound
    hack
  rw [runSteps_succ (step_accept_of_writes_ok hsched hwrites), hcollect]
  simp [State.endedWith, State.endTerminated_eq, State.collected, State.awaitingResponse, hreads, observation]

end Sys2Proof.Machine
end

section
/-! SUPPORT. The wake-up table (spec/45_commands.md R199, R200): what POWER_ON writes at each rate, and the bring-up at a rate
that is not in the table; from that the statements O5 and O20. -/

namespace Sys2Proof.Machine

/-- POWER_ON writes one byte a wake-up count and then its frame of seven (R84, R199). -/
theorem powerOnRequest_out_length (b : Baud) : (powerOnRequest b).out.length = wakeCount b + 7 := by
  simp [Request.out, powerOnRequest, encodeFrame, Command.body]

/-- Settles O5: the lengths are the counts of the table and the frame's seven bytes. -/
theorem wakeCountTable : Obligations.WakeCountTable :=
  ⟨⟨rfl, powerOnRequest_out_length _⟩, ⟨rfl, powerOnRequest_out_length _⟩, ⟨rfl, powerOnRequest_out_length _⟩,
    ⟨rfl, powerOnRequest_out_length _⟩, ⟨rfl, powerOnRequest_out_length _⟩, powerOnRequest_out_length⟩

/-- The numbers that name no rate are those outside the table (R199, R200). -/
theorem baudOfNat_eq_none_iff (n : Nat) : baudOfNat n = none ↔ n ∉ [300, 1200, 4800, 9600, 19200] := by
  unfold baudOfNat
  split_ifs <;> simp_all

/-- A bring-up whose BAUD names no rate is refused (R200). -/
theorem step_of_bringUp_baud_none {s : State} {setup : SessionSetup} {rest : List Event}
    (hsched : s.schedule = .bringUp setup :: rest) (hsession : s.inSession = false) (hbaud : baudOfNat setup.baud = none) :
    step s = .refused (.baudNotInTable setup.baud) := by
  simp [step, hsched, handle, bringUp, hsession, hbaud]

/-- Settles O20: a number outside the table names no rate, and the bring-up tests that first. -/
theorem baudOutsideTableRefused : Obligations.BaudOutsideTableRefused := fun _ setup _ hsched hsession hout =>
  step_of_bringUp_baud_none hsched hsession ((baudOfNat_eq_none_iff setup.baud).mpr hout)

end Sys2Proof.Machine
end

section
/-! SUPPORT. The meanings of the operations (spec/45_commands.md R191 to R198): what the port does with a wire operation, its
one write and its ends hold of every request record alike, so each operation's statement is its record and its APPLY put
into them; from that the statements O31 to O38. -/

namespace Sys2Proof.Machine

/-! ### What all wire operations share -/

/-- The port serves every wire operation with arguments in range by the same tests (R161). -/
theorem portServes_of_requestOf {i : Instr} {r : Baud → Request} (hr : ∀ b, requestOf b i = some (r b))
    (hrange : i.wellFormed = true) : PortServes i r := by
  intro s
  have htests := requestTestsInOrder.1 s i _ (hr s.config.baud)
  refine ⟨fun hclosed => htests.trans (if_pos hclosed), fun hflight hpolicy => ?_, fun hflight hpolicy => ?_,
    exec_of_idle (hr _) hrange⟩
  all_goals
    rw [htests, if_neg (Seq.ne_closed_of_inFlight hflight), if_neg (by simp [hrange]), if_pos hflight, hpolicy]

/-- With the link up, an argument out of range is answered INVALID_ARGUMENT, in flight or not (R161, R221). -/
theorem exec_of_not_wellFormed {i : Instr} {s : State} (hwire : i.isWire = true) (hrange : i.wellFormed = false)
    (hopen : s.seq ≠ .closed) : exec i s = .next (s.answeredOnly i .invalidArgument none) := by
  obtain ⟨r, hr⟩ := requestOf_of_isWire s.config.baud hwire
  rw [requestTestsInOrder.1 s i r hr, if_neg hopen, if_pos hrange]

/-- The write step makes one call on the channel, with the request's own bytes (R52, R164). -/
theorem writesOnce_out (r : Request) : WritesOnce r r.out := by
  intro s hsched hseq hcur
  refine ⟨_, step_of_sent hsched hcur hseq, ?_⟩
  obtain ⟨-, hw⟩ | ⟨k, hfail, hw⟩ := writeStep_cases r s <;> rw [hw]
  · exact ⟨rfl, rfl, fun _ => ⟨rfl, hcur⟩⟩
  · exact ⟨rfl, rfl, fun hok => nomatch hfail.symm.trans hok⟩

/-- A failed write and a failed read attempt end every request alike (R145, R165, R223). -/
theorem transportFailureEnds (r : Request) : TransportFailureEnds r := by
  intro s hsched hcur hfail
  obtain ⟨hseq, k, hwrite⟩ | ⟨hseq, hcancel, hbound, hread⟩ := hfail
  · refine ⟨_, step_of_sent hsched hcur hseq, ?_⟩
    rw [writeStep, hwrite]
    exact ⟨rfl, rfl, rfl, rfl, rfl, rfl⟩
  · exact ⟨_, step_of_read_ioError hsched hcur hseq hcancel hbound hread, rfl, rfl, rfl, rfl, rfl, rfl⟩

/-- A request other than POWER_ON ends by the rows of R147, and writes the mirror by its operation's APPLY (R169). -/
theorem judgedEnds {r : Request} (hr : r.request ≠ .powerOn) : JudgedEnds r (applyTo r.request) := by
  refine ⟨transportFailureEnds r, fun s hsched hcur => ?_⟩
  obtain ⟨hframe, htimeout, -⟩ := outcomeMapping s r hsched hcur
  constructor
  · intro hseq
    obtain ⟨hpreamble, haddressing, htruncated, hacknowledged, hrefused⟩ := hframe hseq hr
    cases hd : decodeFrame s.rxbuf 0xE0 0x88 with
    | error e =>
      cases e with
      | badPreamble => exact hpreamble hd
      | badAddressing => exact haddressing hd
      | truncated => exact htruncated hd
    | ok p =>
      by_cases hack : ackAccepts s.config.ackPredicate r.command p = true
      · exact (hacknowledged p hd hack).trans (congrArg _ (if_pos hack).symm)
      · exact (hrefused p hd (Bool.eq_false_of_not_eq_true hack)).trans (congrArg _ (if_neg hack).symm)
  · intro hseq why hwhy
    obtain ⟨hsilent, hsilentAfter, hexhausted, hcancelled⟩ := htimeout hseq hr
    cases why with
    | silent =>
      by_cases hrx : s.rxbuf = []
      · exact (hsilent hwhy (List.length_eq_zero_iff.mpr hrx)).trans (congrArg _ (if_pos hrx).symm)
      · exact (hsilentAfter hwhy (List.length_pos_iff.mpr hrx)).trans (congrArg _ (if_neg hrx).symm)
    | exhausted => exact hexhausted hwhy
    | cancelled => exact hcancelled hwhy

/-- The meaning of a wire operation other than POWER_ON, with arguments in range, whose record is `r` at every rate: the
port, the one write and every end (R161, R164, R169). -/
theorem judgedMeaning {i : Instr} {r : Request} (hr : ∀ b, requestOf b i = some r) (hrange : i.wellFormed = true)
    (hne : i ≠ .powerOn) : PortServes i (fun _ => r) ∧ WritesOnce r r.out ∧ JudgedEnds r (applyTo i) := by
  obtain rfl := requestOf_request (hr .b9600)
  exact ⟨portServes_of_requestOf hr hrange, writesOnce_out r, judgedEnds hne⟩

/-! ### The operations -/

/-- Settles O31: POWER_ON's record at each rate, and the end that ignores what COLLECT read. -/
theorem powerOnMeaning : Obligations.PowerOnMeaning :=
  ⟨portServes_of_requestOf (r := powerOnRequest) (fun _ => rfl) rfl, fun b =>
    ⟨writesOnce_out (powerOnRequest b), transportFailureEnds _, fun _ _ hr hsched hcur =>
      step_of_powerOn_collected hsched hcur (hr ▸ rfl)⟩⟩

/-- Settles O32: POWER_OFF's record, and an APPLY that writes nothing. -/
theorem powerOffMeaning : Obligations.PowerOffMeaning :=
  judgedMeaning (r := powerOffRequest) (fun _ => rfl) rfl (by decide)

/-- GOTO_MEMORY's record carries as its payload the byte that stands for the argument (R76, R193). -/
theorem gotoMemoryRequest_byte (nn : Byte) :
    gotoMemoryRequest nn.toNat = ⟨.gotoMemory nn.toNat, ⟨0x08, none, some [nn]⟩, []⟩ := by
  rw [gotoMemoryRequest, operandByte, ofInt_toNat_byte]

/-- SELECT_BANK's record carries as its payload the byte that stands for the argument (R77, R194). -/
theorem selectBankRequest_byte (nn : Byte) :
    selectBankRequest nn.toNat = ⟨.selectBank nn.toNat, ⟨0x08, some 0xA0, some [nn]⟩, []⟩ := by
  rw [selectBankRequest, operandByte, ofInt_toNat_byte]

/-- Settles O33: the range check, and in range the argument is a byte's number and the record carries that byte. -/
theorem gotoMemoryMeaning : Obligations.GotoMemoryMeaning := by
  refine fun n => ⟨fun hout _ => exec_of_not_wellFormed rfl (decide_eq_false hout), fun hrange => ?_⟩
  obtain ⟨nn, rfl⟩ := exists_byte_of_range (n := n) (by omega) (by omega)
  exact ⟨nn, rfl, judgedMeaning (fun _ => congrArg some (gotoMemoryRequest_byte nn)) (decide_eq_true hrange) (by simp)⟩

/-- Settles O34: the range check, and in range the argument is a byte's number and the record carries that byte. -/
theorem selectBankMeaning : Obligations.SelectBankMeaning := by
  refine fun n => ⟨fun hout _ => exec_of_not_wellFormed rfl (decide_eq_false hout), fun hrange => ?_⟩
  obtain ⟨nn, rfl⟩ := exists_byte_of_range (n := n) (by omega) (by omega)
  exact ⟨nn, rfl, judgedMeaning (fun _ => congrArg some (selectBankRequest_byte nn)) (decide_eq_true hrange) (by simp)⟩

/-- Settles O35: SET_RECEIVE's record and its APPLY. -/
theorem setReceiveMeaning : Obligations.SetReceiveMeaning :=
  judgedMeaning (r := setReceiveRequest) (fun _ => rfl) rfl (by decide)

/-- Settles O36: SET_TRANSMIT's record and its APPLY. -/
theorem setTransmitMeaning : Obligations.SetTransmitMeaning :=
  judgedMeaning (r := setTransmitRequest) (fun _ => rfl) rfl (by decide)

/-- Settles O37: SET_DATA_MODE's record for each value of its argument, and its APPLY. -/
theorem setDataModeMeaning : Obligations.SetDataModeMeaning
  | true => judgedMeaning (r := setDataModeRequest true) (fun _ => rfl) rfl (by decide)
  | false => judgedMeaning (r := setDataModeRequest false) (fun _ => rfl) rfl (by decide)

/-- Settles O38: the one test of the port that READ_STATE meets is that of CLOSED. -/
theorem readStateMeaning : Obligations.ReadStateMeaning := fun s =>
  ⟨fun hclosed => (requestTestsInOrder.2 s).trans (if_pos hclosed), exec_readState_of_not_closed⟩

end Sys2Proof.Machine
end

section
/-! SUPPORT. The causes of the result codes (spec/60_exceptions.md R221, R226, R231): which codes only the port's tests
answer, what the sequencer's own step answers, and which request a port answer goes to; from that the statements O26 and
O28. -/

namespace Sys2Proof.Machine

variable {s t : State} {r : Request} {a : Answer} {i : Instr}

/-! ### What the sequencer answers -/

/-- The errors given when a request is presented; R231 tells them apart from those that end a request in SEND. -/
def Result.portError : Result → Bool
  | .connectError | .invalidArgument | .busy => true
  | .ok | .noResponse | .okBestEffort | .ioError | .badPreamble | .badAddressing | .truncated | .timeout
  | .notAcknowledged => false

theorem resultOfFrame_not_portError (p : AckPredicate) (c : Command) (rx : List Byte) :
    (resultOfFrame p c rx).portError = false := by
  cases hd : decodeFrame rx ctrlAddr xcvrAddr with
  | error e => cases e <;> simp [resultOfFrame_of_error hd, Result.portError]
  | ok f => cases hack : ackAccepts p c f <;> simp [resultOfFrame_of_ok hd, hack, Result.portError]

theorem resultOfTimeout_not_portError (why : Reason) (rx : List Byte) : (resultOfTimeout why rx).portError = false := by
  cases why with
  | silent => by_cases hrx : rx = [] <;> simp [resultOfTimeout, hrx, Result.portError]
  | exhausted | cancelled => rfl

theorem resultOf_not_portError {judged : Result} (h : judged.portError = false) :
    (resultOf r judged).portError = false := by
  rw [resultOf_eq_ite]
  split_ifs
  · rfl
  · exact h

/-- From `s` to `t` the record of answers grows by nothing, or by one answer that ends a request in SEND (R172, R231). -/
def AnswersEnd (s t : State) : Prop :=
  t.answers = s.answers ∨
    ∃ (r : Request) (code : Result), code.portError = false ∧ t.answers = s.answers ++ [⟨r.request, code, none⟩]

theorem serveHeld_answers (s : State) : (serveHeld s).answers = s.answers := by
  obtain ⟨-, hh⟩ | ⟨k, r, -, -, hh⟩ := serveHeld_cases s <;> simp [hh]

theorem answersEnd_of_writeStep (r : Request) (s : State) : AnswersEnd s (writeStep r s) := by
  obtain ⟨-, hw⟩ | ⟨k, -, hw⟩ := writeStep_cases r s <;> rw [hw]
  · exact .inl rfl
  · exact .inr ⟨r, .ioError, rfl, rfl⟩

theorem answersEnd_of_collectPass (r : Request) (s : State) : AnswersEnd s (collectPass r s) := by
  obtain ⟨-, hp⟩ | ⟨-, -, hp⟩ | ⟨-, -, ⟨-, hp⟩ | ⟨-, hp⟩ | ⟨-, hp⟩ | ⟨b, -, -, hp⟩⟩ := collectPass_cases r s <;> rw [hp]
  case inr.inr.inl => exact .inr ⟨r, .ioError, rfl, rfl⟩
  all_goals exact .inl rfl

/-- The sequencer's own step answers no error of the port (R231). -/
theorem answersEnd_of_advance (h : advance s = .next t) : AnswersEnd s t := by
  obtain ⟨-, rfl⟩ | ⟨-, rfl⟩ | ⟨r, -, -, rfl⟩ | ⟨r, -, -, rfl⟩ | ⟨r, -, -, rfl⟩ | ⟨r, why, -, -, -, rfl⟩ :=
    advance_cases h
  · exact .inl rfl
  · exact .inl (serveHeld_answers s)
  · exact answersEnd_of_writeStep r s
  · exact answersEnd_of_collectPass r s
  · exact .inr ⟨r, _, resultOf_not_portError (resultOfFrame_not_portError _ _ _), rfl⟩
  · exact .inr ⟨r, _, resultOf_not_portError (resultOfTimeout_not_portError why _), rfl⟩

/-- A step whose new answer is an error of the port took a request from the schedule, and the port served it (R231). -/
theorem exec_of_step_portError (h : step s = .next t) (ha : t.answers = s.answers ++ [a]) (hcode : a.code.portError = true) :
    ∃ i rest, s.schedule = .request i :: rest ∧ exec i (s.takeEvent rest) = .next t := by
  have hnew : t.answers ≠ s.answers := by simp [ha]
  obtain ⟨-, hadv⟩ | ⟨i, rest, hs, -, he⟩ | ⟨level, rest, -, rfl⟩ | ⟨rest, -, -, -, rfl⟩ |
    ⟨setup, rest, b, -, -, -, -, -, rfl⟩ := step_cases h
  · obtain hsame | ⟨r, code, hend, happ⟩ := answersEnd_of_advance hadv
    · exact absurd hsame hnew
    · obtain rfl : a = ⟨r.request, code, none⟩ := by simpa using ha.symm.trans happ
      exact absurd (hend.symm.trans hcode) Bool.false_ne_true
  · exact ⟨i, rest, hs, he⟩
  all_goals exact absurd rfl hnew

/-! ### What the port answers -/

theorem State.answer_answers_inj {code : Result} {snap : Option RadioState}
    (h : (s.answer i code snap).answers = s.answers ++ [a]) : a = ⟨i, code, snap⟩ := by
  simpa using h.symm

/-- Where the port answers, the answer goes to the operation presented and nothing else changes; INVALID_ARGUMENT goes to
arguments out of range only, and BUSY to a valid wire operation under REJECT in flight only (R161, R231). -/
theorem exec_answer (h : exec i s = .next t) (ha : t.answers = s.answers ++ [a]) :
    a.request = i ∧ t = s.answeredOnly i a.code a.snapshot ∧ (a.code = .invalidArgument → i.wellFormed = false) ∧
      (a.code = .busy → s.config.busyPolicy = .reject ∧ s.seq.inFlight = true ∧ i.isWire = true ∧
        i.wellFormed = true) := by
  cases hwire : i.isWire with
  | false =>
    obtain rfl : i = .readState := by
      cases i with
      | readState => rfl
      | _ => cases hwire
    rw [requestTestsInOrder.2] at h
    split_ifs at h <;> obtain rfl := Host.Outcome.next.inj h <;> obtain rfl := State.answer_answers_inj ha
    all_goals exact ⟨rfl, rfl, nofun, nofun⟩
  | true =>
    obtain ⟨r, hr⟩ := requestOf_of_isWire s.config.baud hwire
    obtain rfl := requestOf_request hr
    rw [exec_of_requestOf hr] at h
    obtain ⟨-, he⟩ | ⟨-, hrange, he⟩ | ⟨hflight, hrange, hpolicy, he⟩ | ⟨-, -, -, he⟩ | ⟨-, -, he⟩ :=
      presentWire_cases r r.request.wellFormed s <;> obtain rfl := Host.Outcome.next.inj (he.symm.trans h)
    · obtain rfl := State.answer_answers_inj ha
      exact ⟨rfl, rfl, nofun, nofun⟩
    · obtain rfl := State.answer_answers_inj ha
      exact ⟨rfl, rfl, fun _ => hrange, nofun⟩
    · obtain rfl := State.answer_answers_inj ha
      exact ⟨rfl, rfl, nofun, fun _ => ⟨hpolicy, hflight, rfl, hrange⟩⟩
    · simp at ha
    · simp at ha

/-- Under BLOCK a valid wire request made while another is in flight is held (R163). -/
theorem exec_of_block (hr : requestOf s.config.baud i = some r) (hrange : i.wellFormed = true)
    (hflight : s.seq.inFlight = true) (hpolicy : s.config.busyPolicy = .block) :
    exec i s = .next { s with held := s.held ++ [r] } := by
  rw [requestTestsInOrder.1 s i r hr, if_neg (Seq.ne_closed_of_inFlight hflight), if_neg (by simp [hrange]),
    if_pos hflight, hpolicy]

/-- The two operations whose arguments have a range are the only ones that can be out of it (R193, R194). -/
theorem Instr.outOfRange_of_not_wellFormed (h : i.wellFormed = false) :
    ∃ n : Int, (i = .gotoMemory n ∧ ¬(1 ≤ n ∧ n ≤ 100)) ∨ (i = .selectBank n ∧ ¬(1 ≤ n ∧ n ≤ 6)) := by
  cases i with
  | gotoMemory n => exact ⟨n, .inl ⟨rfl, of_decide_eq_false h⟩⟩
  | selectBank n => exact ⟨n, .inr ⟨rfl, of_decide_eq_false h⟩⟩
  | powerOn | powerOff | setReceive | setTransmit | setDataMode | readState => cases h

/-- Settles O26: the port's second test meets an argument out of range, and INVALID_ARGUMENT comes from that test alone. -/
theorem outOfRangeArgumentAnswered : Obligations.OutOfRangeArgumentAnswered := by
  refine ⟨fun s n hopen => ⟨fun hout => exec_of_not_wellFormed rfl (decide_eq_false hout) hopen,
    fun hout => exec_of_not_wellFormed rfl (decide_eq_false hout) hopen⟩, fun s t a h ha hcode => ?_⟩
  obtain ⟨i, rest, -, he⟩ := exec_of_step_portError h ha (by rw [hcode]; rfl)
  obtain ⟨rfl, ht, hinvalid, -⟩ := exec_answer he ha
  exact ⟨ht ▸ rfl, Instr.outOfRange_of_not_wellFormed (hinvalid hcode)⟩

/-- Settles O28: BUSY comes from the port's third test under REJECT alone, and under BLOCK that test holds the request. -/
theorem busyOnlyUnderReject : Obligations.BusyOnlyUnderReject := by
  refine ⟨fun s t a h ha hcode => ?_, fun s i r => exec_of_block⟩
  obtain ⟨i, rest, hs, he⟩ := exec_of_step_portError h ha (by rw [hcode]; rfl)
  obtain ⟨rfl, -, -, hbusy⟩ := exec_answer he ha
  obtain ⟨hpolicy, hflight, hwire, hrange⟩ := hbusy hcode
  exact ⟨hpolicy, hflight, hwire, hrange, rest, hs⟩

end Sys2Proof.Machine
end

section
/-! SUPPORT. The session (spec/70_reset_and_hazards.md R250 to R254): the bring-up, the end and the session after it, and a
failed open, which no step in CLOSED leaves; from that the statements O18, O19 and O22. -/

namespace Sys2Proof.Machine

variable {s t : State} {i : Instr} {setup : SessionSetup} {rest : List Event}

/-! ### A failed open -/

/-- In CLOSED the sequencer has no step of its own, and the state stays (R160). -/
theorem advance_of_closed (hclosed : s.seq = .closed) : advance s = .next s := by
  simp [advance, hclosed]

/-- In CLOSED the port's first test answers every operation, READ_STATE among them, CONNECT_ERROR (R161, R222, R252). -/
theorem exec_of_closed (hclosed : s.seq = .closed) : exec i s = .next (s.answeredOnly i .connectError none) := by
  cases i with
  | readState => exact (requestTestsInOrder.2 s).trans (if_pos hclosed)
  | powerOn | powerOff | gotoMemory | selectBank | setReceive | setTransmit | setDataMode =>
    exact (requestTestsInOrder.1 s _ _ rfl).trans (if_pos hclosed)

/-- Settles O22: in CLOSED the sequencer stays and the port only answers; the steps that call the channel there are the end
of the session and the next bring-up. -/
theorem failedOpenIsFinal : Obligations.FailedOpenIsFinal := by
  refine ⟨fun s t hclosed ⟨hnoEnd, hnoBringUp⟩ h => ?_, fun s i => exec_of_closed⟩
  obtain ⟨-, hadv⟩ | ⟨i, rest, -, -, hexec⟩ | ⟨level, rest, -, rfl⟩ | ⟨rest, hs, -⟩ | ⟨setup, rest, b, hs, -⟩ :=
    step_cases h
  · obtain rfl := Host.Outcome.next.inj (hadv.symm.trans (advance_of_closed hclosed))
    exact ⟨hclosed, rfl⟩
  · obtain rfl := Host.Outcome.next.inj (hexec.symm.trans (exec_of_closed hclosed))
    exact ⟨hclosed, rfl⟩
  · exact ⟨hclosed, rfl⟩
  · exact absurd hs (hnoEnd rest)
  · exact absurd hs (hnoBringUp setup rest)

/-! ### The bring-up -/

/-- A bring-up with legal values, outside a session, leaves the fresh registers of `State.openChannel` (R250). -/
theorem step_of_bringUp {b : Baud} (hsched : s.schedule = .bringUp setup :: rest) (hsession : s.inSession = false)
    (hbaud : baudOfNat setup.baud = some b) (hbound : 1 ≤ setup.maxReadAttempts) (hlegal : setup.init.legal = true) :
    step s = .next ((s.takeEvent rest).openChannel setup b) := by
  simp [step, hsched, handle, bringUp, hsession, hbaud, Nat.one_le_iff_ne_zero.mp hbound, hlegal]

/-- Settles O18: the registers of a bring-up are those of `State.openChannel`, whose SEQ goes by what `open` returned. -/
theorem bringUpRegisters : Obligations.BringUpRegisters := by
  refine fun s setup rest hsched hsession => ⟨step_of_bringUp_baud_none hsched hsession, fun b hbaud hbound hlegal => ?_⟩
  refine ⟨_, step_of_bringUp hsched hsession hbaud hbound hlegal, rfl, rfl, fun hopens => ?_, fun hfails => ?_⟩
  · exact ⟨rfl, if_pos hopens, rfl, rfl, rfl⟩
  · exact if_neg (Bool.eq_false_iff.mp hfails)

/-! ### The end of the session and the next one -/

/-- With nothing in flight, in IDLE or in CLOSED, the session ends with one `close` (R51, R254). -/
theorem step_of_endSession (hsched : s.schedule = .endSession :: rest) (hflight : s.seq.inFlight = false)
    (hsession : s.inSession = true) : step s = .next (s.takeEvent rest).closeChannel := by
  simp [step, hsched, handle, endSession, hflight, hsession]

/-- A session that has ended does not end again (R51). -/
theorem step_of_endSession_again (hsched : s.schedule = .endSession :: rest) (hflight : s.seq.inFlight = false)
    (hsession : s.inSession = false) : step s = .refused .noSession := by
  simp [step, hsched, handle, endSession, hflight, hsession]

/-- A session that goes on is not brought up a second time (R51, R252). -/
theorem step_of_bringUp_inSession (hsched : s.schedule = .bringUp setup :: rest) (hsession : s.inSession = true) :
    step s = .refused .sessionNotEnded := by
  simp [step, hsched, handle, bringUp, hsession]

/-- Settles O19: each clause is the end or the bring-up by whether a session is going on. -/
theorem sessionEndAndNextSession : Obligations.SessionEndAndNextSession := by
  refine ⟨fun s rest hsched hflight => ⟨step_of_endSession hsched hflight, step_of_endSession_again hsched hflight⟩,
    fun s setup rest hsched => ⟨step_of_bringUp_inSession hsched, fun hsession hrate hbound hlegal => ?_⟩⟩
  obtain ⟨b, hbaud⟩ := Option.ne_none_iff_exists'.mp hrate
  exact ⟨_, step_of_bringUp hsched hsession hbaud hbound hlegal, rfl, rfl, rfl, rfl, rfl, rfl, rfl, rfl, rfl, rfl⟩

end Sys2Proof.Machine
end

section
/-! SUPPORT. The register invariant (spec/10_state.md R20 to R28; R141 to R146, R163, R172): its part about requests and its
part about COLLECT, what each thing a step can do makes of them, and why no step is a fault where it holds; from that the
statements O24, O49, O50 and O53. -/

namespace Sys2Proof.Machine

variable {s t : State} {r : Request} {i : Instr}

/-! ### The two parts of the invariant -/

/-- The part of the invariant that speaks of requests, the configuration and the mirror (R22, R23, R27, R28, R163, R254). -/
def RequestsInv (s : State) : Prop :=
  (s.cur = none ↔ s.seq.inFlight = false) ∧ (∀ r, s.cur = some r → RequestWF s.config r) ∧
  (∀ r ∈ s.held, RequestWF s.config r) ∧ (s.held ≠ [] → s.config.busyPolicy = .block ∧ s.seq ≠ .closed) ∧
  1 ≤ s.config.maxReadAttempts ∧ s.mirror.legal = true ∧ (s.inSession = false → s.seq.inFlight = false ∧ s.held = [])

/-- The part of the invariant that speaks of RXBUF, ATTEMPTS and the reason, by SEQ (R25, R140 to R146, R172). -/
def CollectInv (s : State) : Prop :=
  s.attempts ≤ s.config.maxReadAttempts ∧ (s.seq ≠ .timedOut → s.reason = none) ∧
  match s.seq with
  | .closed | .idle | .sent => s.rxbuf = [] ∧ s.attempts = 0
  | .awaitingByte => s.rxbuf.length = s.attempts ∧ terminatorByte ∉ s.rxbuf
  | .gotTerminator => s.rxbuf.length = s.attempts ∧ ∃ xs, s.rxbuf = xs ++ [terminatorByte] ∧ terminatorByte ∉ xs
  | .timedOut => terminatorByte ∉ s.rxbuf ∧
    ((s.reason = some .silent ∧ s.rxbuf.length + 1 = s.attempts) ∨
     (s.reason = some .exhausted ∧ s.rxbuf.length = s.config.maxReadAttempts ∧ s.attempts = s.config.maxReadAttempts) ∨
     (s.reason = some .cancelled ∧ s.rxbuf.length = s.attempts))

theorem regInv_iff : RegInv s ↔ RequestsInv s ∧ CollectInv s := by
  constructor
  · intro h
    refine ⟨⟨h.cur_none_iff, h.cur_wf, h.held_wf, h.held_block, h.bound_pos, h.mirror_legal, h.session_over⟩,
      h.attempts_le, h.reason_only, ?_⟩
    cases hseq : s.seq with
    | closed => exact h.quiet (.inl hseq)
    | idle => exact h.quiet (.inr (.inl hseq))
    | sent => exact h.quiet (.inr (.inr hseq))
    | awaitingByte => exact h.awaiting hseq
    | gotTerminator => exact h.terminated hseq
    | timedOut => exact h.timed_out hseq
  · rintro ⟨⟨hcur, hcurWF, hheldWF, hblock, hbound, hlegal, hover⟩, hle, hreason, hcollect⟩
    refine ⟨hcur, hcurWF, hheldWF, hblock, hbound, hle, ?_, ?_, ?_, ?_, hreason, hlegal, hover⟩
    · rintro (hseq | hseq | hseq) <;> simpa only [hseq] using hcollect
    all_goals
      intro hseq
      simpa only [hseq] using hcollect

/-! Taking an event, CANCEL and an answer write nothing that the invariant speaks of. -/

@[simp] theorem State.takeEvent_regInv (rest : List Event) : RegInv (s.takeEvent rest) ↔ RegInv s := by
  rw [regInv_iff, regInv_iff]
  rfl

@[simp] theorem State.setCancel_regInv (level : Bool) : RegInv (s.setCancel level) ↔ RegInv s := by
  rw [regInv_iff, regInv_iff]
  rfl

@[simp] theorem State.answer_regInv (code : Result) (snap : Option RadioState) :
    RegInv (s.answer i code snap) ↔ RegInv s := by
  rw [regInv_iff, regInv_iff]
  rfl

/-- Where no COLLECT is going on or completing, its registers are clear (R141, R172). -/
theorem CollectInv.clear (h : CollectInv s) (hseq : s.seq = .closed ∨ s.seq = .idle ∨ s.seq = .sent) :
    s.rxbuf = [] ∧ s.attempts = 0 ∧ s.reason = none := by
  obtain ⟨-, hreason, hcollect⟩ := h
  obtain hseq | hseq | hseq := hseq <;> rw [hseq] at hreason hcollect <;>
    exact ⟨hcollect.1, hcollect.2, hreason (by decide)⟩

/-! ### What keeps the part about requests -/

/-- From one SEQ in flight to another, CUR stays the request in flight (R22). -/
theorem RequestsInv.setSeq (h : RequestsInv s) {q : Seq} (hs : s.seq.inFlight = true) (hq : q.inFlight = true) :
    RequestsInv { s with seq := q } := by
  obtain ⟨hcur, hcurWF, hheldWF, hblock, hbound, hlegal, hover⟩ := h
  refine ⟨?_, hcurWF, hheldWF, fun hheld => ⟨(hblock hheld).1, Seq.ne_closed_of_inFlight hq⟩, hbound, hlegal, fun hno => ?_⟩
  · simpa [hs, hq] using hcur
  · exact absurd hs (by simp [(hover hno).1])

theorem RadioState.legal_iff {m : RadioState} : m.legal = true ↔
    1 ≤ m.memoryNum ∧ m.memoryNum ≤ 100 ∧ 1 ≤ m.memoryBank ∧ m.memoryBank ≤ 6 := decide_eq_true_iff

/-- APPLY keeps the mirror legal, the arguments being in range (R28, R193, R194). -/
theorem applyTo_legal (hrange : i.wellFormed = true) {m : RadioState} (h : m.legal = true) :
    (applyTo i m).legal = true := by
  cases i with
  | powerOn | powerOff | setReceive | setTransmit | setDataMode | readState => exact h
  | gotoMemory n | selectBank n =>
    have hn := of_decide_eq_true hrange
    simp only [RadioState.legal_iff, applyTo] at h ⊢
    omega

theorem RequestsInv.applyIfOk (h : RequestsInv s) (hcur : s.cur = some r) (code : Result) :
    RequestsInv (s.applyIfOk r code) := by
  obtain ⟨hnone, hcurWF, hheldWF, hblock, hbound, hlegal, hover⟩ := h
  refine ⟨hnone, hcurWF, hheldWF, hblock, hbound, ?_, hover⟩
  obtain ⟨-, hrange, -⟩ := hcurWF r hcur
  rw [State.applyIfOk_mirror]
  split_ifs
  · exact applyTo_legal hrange hlegal
  · exact hlegal

/-! ### Each thing a step can do keeps the invariant -/

/-- `finish` clears every register of the request in flight (R172). -/
theorem RequestsInv.finish (h : RequestsInv s) (hflight : s.seq.inFlight = true) (r : Request) (code : Result) :
    RegInv (s.finish r code) := by
  obtain ⟨-, -, hheldWF, hblock, hbound, hlegal, hover⟩ := h
  refine regInv_iff.mpr ⟨⟨?_, nofun, hheldWF, fun hheld => ⟨(hblock hheld).1, nofun⟩, hbound, hlegal, fun hno => ?_⟩,
    Nat.zero_le _, fun _ => rfl, rfl, rfl⟩
  · simp [Seq.inFlight]
  · exact absurd hflight (by simp [(hover hno).1])

theorem RegInv.complete (h : RegInv s) (hflight : s.seq.inFlight = true) (hcur : s.cur = some r) (code : Result) :
    RegInv (complete r code s) :=
  ((regInv_iff.mp h).1.applyIfOk hcur code).finish hflight r code

theorem RegInv.writeStep (h : RegInv s) (hseq : s.seq = .sent) (r : Request) : RegInv (writeStep r s) := by
  obtain ⟨hreq, hcol⟩ := regInv_iff.mp h
  have hflight : s.seq.inFlight = true := by rw [hseq]; rfl
  obtain ⟨-, hreason⟩ := (hcol.clear (.inr (.inr hseq))).2
  obtain ⟨-, hw⟩ | ⟨k, -, hw⟩ := writeStep_cases r s <;> rw [hw]
  · exact regInv_iff.mpr ⟨hreq.setSeq (q := .awaitingByte) hflight rfl, Nat.zero_le _, fun _ => hreason, rfl, by simp⟩
  · exact RequestsInv.finish (s := (s.observe .outbound r.out).chanWrite r.out) hreq hflight r .ioError

/-- A pass of COLLECT keeps ATTEMPTS within the bound and equal to the bytes read, but for an attempt that found silence
(R25, R140 to R146). -/
theorem RegInv.collectPass (h : RegInv s) (hseq : s.seq = .awaitingByte) (r : Request) : RegInv (collectPass r s) := by
  obtain ⟨hreq, hle, hreason, hcollect⟩ := regInv_iff.mp h
  have hflight : s.seq.inFlight = true := by rw [hseq]; rfl
  rw [hseq] at hcollect
  obtain ⟨hlen, hterm⟩ := hcollect
  have hnone : s.reason = none := hreason (by simp [hseq])
  have hends : RequestsInv { s with seq := .timedOut } := hreq.setSeq hflight rfl
  obtain ⟨-, hp⟩ | ⟨-, hmax, hp⟩ | ⟨-, hmax, ⟨-, hp⟩ | ⟨-, hp⟩ | ⟨-, hp⟩ | ⟨b, hb, -, hp⟩⟩ := collectPass_cases r s <;>
    rw [hp]
  · exact regInv_iff.mpr ⟨hends, hle, fun hne => absurd rfl hne, hterm, .inr (.inr ⟨rfl, hlen⟩)⟩
  · exact regInv_iff.mpr ⟨hends, hle, fun hne => absurd rfl hne, hterm, .inr (.inl ⟨rfl, hlen.trans hmax, hmax⟩)⟩
  · exact RequestsInv.finish (s := s.attemptRead.observe .inbound s.rxbuf) hreq hflight r .ioError
  · exact regInv_iff.mpr ⟨hends, Nat.lt_of_le_of_ne hle hmax, fun hne => absurd rfl hne, hterm,
      .inl ⟨rfl, congrArg (· + 1) hlen⟩⟩
  · exact regInv_iff.mpr ⟨hreq.setSeq (q := .gotTerminator) hflight rfl, Nat.lt_of_le_of_ne hle hmax, fun _ => hnone,
      by simp [hlen], s.rxbuf, rfl, hterm⟩
  · refine regInv_iff.mpr ⟨hreq, Nat.lt_of_le_of_ne hle hmax, fun _ => hnone, ?_⟩
    simp [hseq, hlen, hterm, Ne.symm hb]

/-- Accepting a valid request in IDLE (R161, R163, R164). -/
theorem RegInv.accept (h : RegInv s) (hidle : s.seq = .idle) (hsession : s.inSession = true)
    (hr : RequestWF s.config r) : RegInv (s.accept r) := by
  obtain ⟨⟨-, -, hheldWF, hblock, hbound, hlegal, -⟩, hcol⟩ := regInv_iff.mp h
  obtain ⟨hrxbuf, hattempts, hreason⟩ := hcol.clear (.inr (.inl hidle))
  refine regInv_iff.mpr ⟨⟨?_, ?_, hheldWF, fun hheld => ⟨(hblock hheld).1, nofun⟩, hbound, hlegal, fun hno => ?_⟩,
    hcol.1, fun _ => hreason, hrxbuf, hattempts⟩
  · simp [Seq.inFlight]
  · rintro _ ⟨⟩
    exact hr
  · exact absurd hsession (by simpa using hno)

/-- Taking a held request away leaves the others as they were (R163). -/
theorem RegInv.unhold (h : RegInv s) (k : Nat) : RegInv (s.unhold k) := by
  obtain ⟨⟨hnone, hcurWF, hheldWF, hblock, hbound, hlegal, hover⟩, hcol⟩ := regInv_iff.mp h
  refine regInv_iff.mpr ⟨⟨hnone, hcurWF, fun r hr => hheldWF r (List.mem_of_mem_eraseIdx hr),
    fun hheld => hblock fun hnil => hheld ?_, hbound, hlegal, fun hno => ⟨(hover hno).1, ?_⟩⟩, hcol⟩
  · rw [State.unhold_held, hnil]
    rfl
  · rw [State.unhold_held, (hover hno).2]
    rfl

theorem RegInv.serveHeld (h : RegInv s) (hidle : s.seq = .idle) : RegInv (serveHeld s) := by
  obtain ⟨-, hs⟩ | ⟨k, r, -, hr, hs⟩ := serveHeld_cases s <;> rw [hs]
  · exact h
  · have hmem : r ∈ s.held := List.mem_of_getElem? hr
    have hsession : s.inSession = true := by
      by_contra hno
      rw [(h.session_over (by simpa using hno)).2] at hmem
      cases hmem
    exact (h.unhold k).accept hidle hsession (h.held_wf r hmem)

theorem RegInv.advance (h : RegInv s) (ha : advance s = .next t) : RegInv t := by
  obtain ⟨-, rfl⟩ | ⟨hseq, rfl⟩ | ⟨r, -, hseq, rfl⟩ | ⟨r, -, hseq, rfl⟩ | ⟨r, hcur, hseq, rfl⟩ |
    ⟨r, why, hcur, hseq, -, rfl⟩ := advance_cases ha
  · exact h
  · exact h.serveHeld hseq
  · exact h.writeStep hseq r
  · exact h.collectPass hseq r
  · exact h.complete (by rw [hseq]; rfl) hcur _
  · exact h.complete (by rw [hseq]; rfl) hcur _

/-- Only a wire operation builds a request record (R23, R198). -/
theorem isWire_of_requestOf {b : Baud} (hr : requestOf b i = some r) : i.isWire = true := by
  cases i with
  | readState => cases hr
  | _ => rfl

/-- The request record of a valid operation meets R23. -/
theorem requestWF_of_requestOf {c : Configuration} (hr : requestOf c.baud i = some r) (hrange : i.wellFormed = true) :
    RequestWF c r := by
  obtain rfl := requestOf_request hr
  exact ⟨isWire_of_requestOf hr, hrange, hr⟩

/-- Holding a valid request while another is in flight, under BLOCK (R163). -/
theorem RegInv.hold (h : RegInv s) (hflight : s.seq.inFlight = true) (hpolicy : s.config.busyPolicy = .block)
    (hr : RequestWF s.config r) : RegInv (s.hold r) := by
  obtain ⟨⟨hnone, hcurWF, hheldWF, -, hbound, hlegal, hover⟩, hcol⟩ := regInv_iff.mp h
  refine regInv_iff.mpr ⟨⟨hnone, hcurWF, fun r' hr' => ?_, fun _ => ⟨hpolicy, Seq.ne_closed_of_inFlight hflight⟩, hbound,
    hlegal, fun hno => ?_⟩, hcol⟩
  · obtain hmem | rfl := List.mem_append.mp hr' |>.imp_right List.mem_singleton.mp
    · exact hheldWF r' hmem
    · exact hr
  · exact absurd hflight (by simp [(hover hno).1])

theorem RegInv.exec (h : RegInv s) (hsession : s.inSession = true) (he : exec i s = .next t) : RegInv t := by
  obtain ⟨code, snap, ha, -⟩ | ⟨r, hr, hrange, hflight, hpolicy, ha⟩ | ⟨r, hr, hrange, hidle, ha⟩ := exec_cases i s <;>
    obtain rfl := Host.Outcome.next.inj (ha.symm.trans he)
  · exact (State.answer_regInv code snap).mpr h
  · exact h.hold hflight hpolicy (requestWF_of_requestOf hr hrange)
  · exact h.accept hidle hsession (requestWF_of_requestOf hr hrange)

/-- The end of a session drops what is held and touches no other register (R254). -/
theorem RegInv.closeChannel (h : RegInv s) (hflight : s.seq.inFlight = false) : RegInv s.closeChannel := by
  obtain ⟨⟨hnone, hcurWF, -, -, hbound, hlegal, -⟩, hcol⟩ := regInv_iff.mp h
  exact regInv_iff.mpr ⟨⟨hnone, hcurWF, nofun, fun hheld => absurd rfl hheld, hbound, hlegal, fun _ => ⟨hflight, rfl⟩⟩, hcol⟩

/-- A bring-up with legal values begins with fresh registers and nothing held (R250, R254). -/
theorem RegInv.openChannel (h : RegInv s) (hsession : s.inSession = false) {setup : SessionSetup} (b : Baud)
    (hbound : 1 ≤ setup.maxReadAttempts) (hlegal : setup.init.legal = true) : RegInv (s.openChannel setup b) := by
  have hheld : (s.openChannel setup b).held = [] := (h.session_over hsession).2
  refine regInv_iff.mpr ⟨⟨?_, nofun, hheld ▸ nofun, fun hne => absurd hheld hne, hbound, hlegal, nofun⟩,
    Nat.zero_le _, fun _ => rfl, ?_⟩ <;>
  cases ho : setup.openSucceeds <;> simp [ho, Seq.inFlight]

/-- Settles O50: each thing a step can do keeps the part about requests and the part about COLLECT. -/
theorem stepKeepsRegisterInvariant : Obligations.StepKeepsRegisterInvariant := by
  intro s t h hstep
  have htake (rest : List Event) : RegInv (s.takeEvent rest) := (State.takeEvent_regInv rest).mpr h
  obtain ⟨-, ha⟩ | ⟨i, rest, -, hsession, he⟩ | ⟨level, rest, -, rfl⟩ | ⟨rest, -, hflight, -, rfl⟩ |
    ⟨setup, rest, b, -, hsession, -, hbound, hlegal, rfl⟩ := step_cases hstep
  · exact (htake _).advance ha
  · exact (htake rest).exec hsession he
  · exact (State.setCancel_regInv level).mpr (htake rest)
  · exact (htake rest).closeChannel hflight
  · exact (htake rest).openChannel hsession b hbound hlegal

/-! ### Reset -/

/-- RADIO_STATE_INIT is legal whatever its free values are (R28, R34). -/
theorem radioStateInit_legal : Config.radioStateInit.legal = true := by
  have hmemory := Config.initMemoryIndex.isLt
  have hbank := Config.initBankIndex.isLt
  simp only [RadioState.legal_iff, Config.radioStateInit]
  omega

/-- Settles O49: nothing is in flight or held, the registers of COLLECT are clear and RADIO_STATE_INIT is legal. -/
theorem resetMeetsRegisterInvariant : Obligations.ResetMeetsRegisterInvariant :=
  regInv_iff.mpr ⟨⟨⟨fun _ => rfl, fun _ => rfl⟩, nofun, nofun, fun hheld => absurd rfl hheld, by decide,
    radioStateInit_legal, nofun⟩, Nat.zero_le _, fun _ => rfl, rfl, rfl⟩

/-! ### No fault -/

/-- In flight there is a request to work on, and in TIMED_OUT a reason, so the sequencer has a step in every state of the
invariant (R23, R140, R160). -/
theorem RegInv.advance_next (h : RegInv s) : ∃ t, Machine.advance s = .next t := by
  have hflight (hseq : s.seq.inFlight = true) : ∃ r, s.cur = some r :=
    Option.ne_none_iff_exists'.mp fun hnone => absurd hseq (by simp [h.cur_none_iff.mp hnone])
  cases hseq : s.seq with
  | closed | idle => exact ⟨_, by simp only [Machine.advance, hseq]; rfl⟩
  | sent | awaitingByte | gotTerminator =>
    obtain ⟨r, hcur⟩ := hflight (by rw [hseq]; rfl)
    exact ⟨_, by simp only [Machine.advance, hseq, withCurrent, hcur]; rfl⟩
  | timedOut =>
    obtain ⟨r, hcur⟩ := hflight (by rw [hseq]; rfl)
    obtain ⟨why, hwhy⟩ : ∃ why, s.reason = some why := by
      obtain ⟨-, ⟨hwhy, -⟩ | ⟨hwhy, -⟩ | ⟨hwhy, -⟩⟩ := h.timed_out hseq <;> exact ⟨_, hwhy⟩
    exact ⟨_, by simp only [Machine.advance, hseq, withCurrent, hcur, hwhy]; rfl⟩

/-- Settles O24: the port answers, holds or accepts. -/
theorem everyRequestHasANextState : Obligations.EveryRequestHasANextState := by
  intro i s
  obtain ⟨code, snap, he, -⟩ | ⟨r, -, -, -, -, he⟩ | ⟨r, -, -, -, he⟩ := exec_cases i s <;> exact ⟨_, he⟩

/-- With an event waiting, a step is what the event does, once it is taken off the schedule (R11). -/
theorem step_of_event {e : Event} {rest : List Event} (hsched : s.schedule = e :: rest) :
    step s = handle e (s.takeEvent rest) := by
  rw [step, hsched]

/-- An event that can be refused: one that ends a session or begins one, or a request where there is no session (R238, R250,
R254). -/
def Event.refusable (e : Event) (inSession : Bool) : Bool :=
  match e with
  | .request _ => !inSession
  | .cancel _ => false
  | .advance => false
  | .endSession => true
  | .bringUp _ => true

/-- The end of a session is served or refused. -/
theorem endSession_next_or_refused (s : State) :
    (∃ t, endSession s = .next t) ∨ ∃ why, endSession s = .refused why := by
  unfold endSession
  split
  · exact .inr ⟨_, rfl⟩
  · exact .inr ⟨_, rfl⟩
  · exact .inl ⟨_, rfl⟩

/-- A bring-up is served or refused. -/
theorem bringUp_next_or_refused (setup : SessionSetup) (s : State) :
    (∃ t, bringUp setup s = .next t) ∨ ∃ why, bringUp setup s = .refused why := by
  unfold bringUp
  split
  · exact .inr ⟨_, rfl⟩
  · split
    · exact .inr ⟨_, rfl⟩
    · split_ifs
      · exact .inr ⟨_, rfl⟩
      · exact .inr ⟨_, rfl⟩
      · exact .inl ⟨_, rfl⟩

/-- In a state of the invariant an event is served, or it is one that can be refused and is refused. -/
theorem RegInv.handle_next_or_refused (h : RegInv s) (e : Event) :
    (∃ t, handle e s = .next t) ∨ (e.refusable s.inSession = true ∧ ∃ why, handle e s = .refused why) := by
  cases e with
  | request i =>
    cases hsession : s.inSession with
    | true =>
      obtain ⟨t, ht⟩ := everyRequestHasANextState i s
      exact .inl ⟨t, by simp only [handle, present, hsession, ht]⟩
    | false => exact .inr ⟨rfl, .noSession, by simp only [handle, present, hsession]⟩
  | cancel level => exact .inl ⟨_, rfl⟩
  | advance => exact .inl h.advance_next
  | endSession => exact (endSession_next_or_refused s).imp_right fun hrefused => ⟨rfl, hrefused⟩
  | bringUp setup => exact (bringUp_next_or_refused setup s).imp_right fun hrefused => ⟨rfl, hrefused⟩

/-- In a state of the invariant a step has a next state, or the event that waits is one that can be refused and is. -/
theorem RegInv.step_next_or_refused (h : RegInv s) :
    (∃ t, step s = .next t) ∨ ∃ e rest, s.schedule = e :: rest ∧ e.refusable s.inSession = true ∧
      ∃ why, step s = .refused why := by
  cases hsched : s.schedule with
  | nil =>
    rw [step_of_no_event hsched]
    exact .inl h.advance_next
  | cons e rest =>
    rw [step_of_event hsched]
    exact (((State.takeEvent_regInv rest).mpr h).handle_next_or_refused e).imp_right
      fun ⟨hrefusable, hrefused⟩ => ⟨e, rest, rfl, hrefusable, hrefused⟩

/-- Settles O53: in a state of the invariant the sequencer has a step and the port serves every request of a session, so what
is left is the events that can be refused. -/
theorem invariantStatesNeverFault : Obligations.InvariantStatesNeverFault := by
  intro s h
  obtain ⟨t, ht⟩ | ⟨e, rest, hsched, hrefusable, why, hrefused⟩ := h.step_next_or_refused
  · exact ⟨fun f hfault => (nomatch ht.symm.trans hfault), fun _ _ => ⟨t, ht⟩⟩
  · refine ⟨fun f hfault => (nomatch hrefused.symm.trans hfault), fun ⟨hnoEnd, hnoBringUp⟩ hport => ?_⟩
    cases e with
    | request i =>
      obtain hsession | hnoRequest := hport
      · simp [Event.refusable, hsession] at hrefusable
      · exact absurd hsched (hnoRequest i rest)
    | cancel level | advance => cases hrefusable
    | endSession => exact absurd hsched (hnoEnd rest)
    | bringUp setup => exact absurd hsched (hnoBringUp setup rest)

end Sys2Proof.Machine
end

section
/-! SUPPORT. The observer hook (spec/60_exceptions.md R237): taking the observer away commutes with every operation on the
port and every sequencer step, and a bring-up fixes anew whether there is one; from that the statement O59. -/

namespace Sys2Proof.Machine

/-- An outcome without an observer and without what it was told (R237). -/
def withoutObserver : Outcome → Outcome
  | .next t => .next t.unobserved
  | .fault f => .fault f
  | .refused why => .refused why

variable (s : State)

section unobserved
@[simp] theorem State.unobserved_seq : s.unobserved.seq = s.seq := rfl
@[simp] theorem State.unobserved_cur : s.unobserved.cur = s.cur := rfl
@[simp] theorem State.unobserved_rxbuf : s.unobserved.rxbuf = s.rxbuf := rfl
@[simp] theorem State.unobserved_attempts : s.unobserved.attempts = s.attempts := rfl
@[simp] theorem State.unobserved_reason : s.unobserved.reason = s.reason := rfl
@[simp] theorem State.unobserved_inSession : s.unobserved.inSession = s.inSession := rfl
@[simp] theorem State.unobserved_cancel : s.unobserved.cancel = s.cancel := rfl
@[simp] theorem State.unobserved_baud : s.unobserved.config.baud = s.config.baud := rfl
@[simp] theorem State.unobserved_maxReadAttempts :
    s.unobserved.config.maxReadAttempts = s.config.maxReadAttempts := rfl
@[simp] theorem State.unobserved_busyPolicy : s.unobserved.config.busyPolicy = s.config.busyPolicy := rfl
@[simp] theorem State.unobserved_ackPredicate : s.unobserved.config.ackPredicate = s.config.ackPredicate := rfl
@[simp] theorem State.unobserved_mirror : s.unobserved.mirror = s.mirror := rfl
@[simp] theorem State.unobserved_held : s.unobserved.held = s.held := rfl
@[simp] theorem State.unobserved_schedule : s.unobserved.schedule = s.schedule := rfl
@[simp] theorem State.unobserved_nextRead : s.unobserved.nextRead = s.nextRead := rfl
@[simp] theorem State.unobserved_nextWrite : s.unobserved.nextWrite = s.nextWrite := rfl
@[simp] theorem State.unobserved_nextPick : s.unobserved.nextPick = s.nextPick := rfl
end unobserved

/-! ### The sequencer's own step -/

theorem serveHeld_unobserved : serveHeld s.unobserved = (serveHeld s).unobserved := by
  simp only [serveHeld, State.unobserved_held, State.unobserved_nextPick]
  split <;> rfl

theorem writeStep_unobserved (r : Request) : writeStep r s.unobserved = (writeStep r s).unobserved := by
  simp only [writeStep, State.unobserved_nextWrite]
  split <;> rfl

theorem collectPass_unobserved (r : Request) : collectPass r s.unobserved = (collectPass r s).unobserved := by
  obtain ⟨hc, hp⟩ | ⟨hc, ha, hp⟩ | ⟨hc, ha, ⟨hn, hp⟩ | ⟨hn, hp⟩ | ⟨hn, hp⟩ | ⟨b, hb, hn, hp⟩⟩ := collectPass_cases r s <;>
    rw [hp]
  · rw [collectPass_of_cancel (s := s.unobserved) hc]
    rfl
  · simp only [collectPass, State.unobserved_cancel, hc, State.unobserved_attempts, State.unobserved_maxReadAttempts, ha,
      if_true, Bool.false_eq_true, if_false]
    rfl
  case inr.inr.inr.inr.inr =>
    simp only [collectPass, State.unobserved_cancel, hc, State.unobserved_attempts, State.unobserved_maxReadAttempts, ha,
      State.unobserved_nextRead, hn, hb, Bool.false_eq_true, if_false]
    rfl
  all_goals
    simp only [collectPass, State.unobserved_cancel, hc, State.unobserved_attempts, State.unobserved_maxReadAttempts, ha,
      State.unobserved_nextRead, hn, if_true, Bool.false_eq_true, if_false]
    rfl

theorem complete_unobserved (r : Request) (code : Result) :
    complete r code s.unobserved = (complete r code s).unobserved := rfl

/-- A step on the request in flight that does not see the observer leaves an outcome that does not. -/
theorem withCurrent_unobserved {f g : Request → State → State} (h : ∀ r, f r s.unobserved = (g r s).unobserved) :
    withCurrent s.unobserved f = withoutObserver (withCurrent s g) := by
  cases hcur : s.cur <;> simp [withCurrent, hcur, h, withoutObserver]

theorem advance_unobserved : advance s.unobserved = withoutObserver (advance s) := by
  cases hseq : s.seq with
  | closed => simp only [advance, State.unobserved_seq, hseq, withoutObserver]
  | idle => simp only [advance, State.unobserved_seq, hseq, serveHeld_unobserved, withoutObserver]
  | sent =>
    simp only [advance, State.unobserved_seq, hseq]
    exact withCurrent_unobserved s (writeStep_unobserved s)
  | awaitingByte =>
    simp only [advance, State.unobserved_seq, hseq]
    exact withCurrent_unobserved s (collectPass_unobserved s)
  | gotTerminator =>
    simp only [advance, State.unobserved_seq, hseq]
    exact withCurrent_unobserved s fun r => complete_unobserved s r _
  | timedOut =>
    cases hwhy : s.reason with
    | none => simp only [advance, State.unobserved_seq, State.unobserved_reason, hseq, hwhy, withoutObserver]
    | some why =>
      simp only [advance, State.unobserved_seq, State.unobserved_reason, hseq, hwhy]
      exact withCurrent_unobserved s fun r => complete_unobserved s r _

/-! ### The request port -/

theorem presentBusy_unobserved (r : Request) : presentBusy r s.unobserved = (presentBusy r s).unobserved := by
  simp only [presentBusy, State.unobserved_busyPolicy]
  split <;> rfl

theorem presentWire_unobserved (r : Request) (valid : Bool) :
    presentWire r valid s.unobserved = withoutObserver (presentWire r valid s) := by
  simp only [presentWire, State.unobserved_seq, presentBusy_unobserved]
  split_ifs <;> rfl

theorem exec_unobserved (i : Instr) : exec i s.unobserved = withoutObserver (exec i s) := by
  cases hr : requestOf s.config.baud i with
  | some r => rw [exec_of_requestOf hr, exec_of_requestOf (s := s.unobserved) hr, presentWire_unobserved]
  | none =>
    cases i with
    | readState =>
      by_cases hclosed : s.seq = .closed
      · rw [exec_of_closed hclosed, exec_of_closed (s := s.unobserved) hclosed]
        rfl
      · rw [exec_readState_of_not_closed hclosed, exec_readState_of_not_closed (s := s.unobserved) hclosed]
        rfl
    | _ => cases hr

theorem present_unobserved (i : Instr) : present i s.unobserved = withoutObserver (present i s) := by
  simp only [present, State.unobserved_inSession, exec_unobserved]
  split <;> rfl

/-! ### The session -/

theorem endSession_unobserved : endSession s.unobserved = withoutObserver (endSession s) := by
  simp only [endSession, State.unobserved_seq, State.unobserved_inSession]
  split <;> rfl

/-- A bring-up fixes whether there is an observer, so without one before it the new session may have one (R27, R250). -/
theorem bringUp_unobserved (setup : SessionSetup) :
    withoutObserver (bringUp setup s.unobserved) = withoutObserver (bringUp setup s) := by
  simp only [bringUp, State.unobserved_inSession]
  split
  · rfl
  · split
    · rfl
    · split_ifs <;> rfl

/-! ### The whole machine -/

theorem withoutObserver_idem (o : Outcome) : withoutObserver (withoutObserver o) = withoutObserver o := by
  cases o <;> rfl

theorem handle_unobserved (e : Event) : withoutObserver (handle e s.unobserved) = withoutObserver (handle e s) := by
  cases e with
  | request i => rw [handle, present_unobserved, withoutObserver_idem, handle]
  | cancel level => rfl
  | advance => rw [handle, advance_unobserved, withoutObserver_idem, handle]
  | endSession => rw [handle, endSession_unobserved, withoutObserver_idem, handle]
  | bringUp setup => exact bringUp_unobserved s setup

/-- With and without an observer a step has the same outcome but for what the hook was told (R237). -/
theorem step_unobserved : withoutObserver (step s.unobserved) = withoutObserver (step s) := by
  cases hsched : s.schedule with
  | nil =>
    rw [step_of_no_event hsched, step_of_no_event (s := s.unobserved) hsched, advance_unobserved, withoutObserver_idem]
  | cons e rest =>
    simp only [step, State.unobserved_schedule, hsched]
    exact handle_unobserved (s.takeEvent rest) e

/-- Settles O59: two outcomes that are one without the observer are of one kind, with the same reason, or with next states
that are one without the observer. -/
theorem observerChangesNothing : Obligations.ObserverChangesNothing := by
  intro s
  have h := step_unobserved s
  cases hs : step s <;> cases hu : step s.unobserved <;> rw [hs, hu] at h
  case next.next => exact (Host.Outcome.next.inj h).symm
  case fault.fault => exact (Host.Outcome.fault.inj h).symm
  case refused.refused => exact (Host.Outcome.refused.inj h).symm
  all_goals cases h

end Sys2Proof.Machine
end

section
/-! SUPPORT. The words of the operations and what goes on the wire (spec/30_encoding.md R79, R80, R84): a request's one write is
its operation's word after the wake-up bytes; from that the statements O1, O2, O3 and O7. -/

namespace Sys2Proof

/-- Settles O1: the operand byte of an argument in range stands for that argument. -/
theorem decodeEncodeRoundTrip : Obligations.DecodeEncodeRoundTrip := fun _ => decode_encode

/-- Settles O2: each row of the decoder accepts only the bytes of that row's word. -/
theorem decodedWordIsEncoded : Obligations.DecodedWordIsEncoded := fun _ _ => encode_of_decode

/-- A table word whose bytes are an operation's word decodes to it. -/
theorem decodeTableWord_of_encode {i : Instr} {nbits w : Nat} (hrange : i.wellFormed = true)
    (hbytes : bytesOfWord nbits w = encode i) : decodeTableWord nbits w = some i := by
  rw [decodeTableWord, hbytes, decode_encode hrange]

/-- Settles O3: each table word's bytes are the word `encode` writes. -/
theorem tableWordsDecode : Obligations.TableWordsDecode :=
  ⟨decodeTableWord_of_encode rfl (by decide), decodeTableWord_of_encode rfl (by decide),
    decodeTableWord_of_encode rfl (by decide), decodeTableWord_of_encode rfl (by decide),
    decodeTableWord_of_encode rfl (by decide), decodeTableWord_of_encode rfl (by decide)⟩

/-- Wake-up bytes before an outbound frame are cut off, and the frame's own two stay (R84). -/
theorem stripWake_wake_outboundFrame (n : Nat) (fields : List Byte) :
    stripWake (List.replicate n preambleByte ++ outboundFrame fields) = outboundFrame fields := by
  induction n with
  | zero => simp [stripWake, outboundFrame, preambleByte, xcvrAddr]
  | succ n ih =>
    have hthree : ∃ rest, List.replicate n preambleByte ++ outboundFrame fields = preambleByte :: preambleByte :: rest := by
      match n with
      | 0 => exact ⟨_, rfl⟩
      | 1 => exact ⟨_, rfl⟩
      | n + 2 => exact ⟨_, rfl⟩
    obtain ⟨rest, hrest⟩ := hthree
    rw [List.replicate_succ, List.cons_append, hrest, stripWake, if_pos ⟨rfl, rfl, rfl⟩, ← hrest, ih]

end Sys2Proof

namespace Sys2Proof.Machine

/-- The frame of a request is its operation's word (R79, R164). -/
theorem encodeFrame_of_requestOf {b : Baud} {i : Instr} {r : Request} (hr : requestOf b i = some r) :
    encodeFrame r.command xcvrAddr ctrlAddr = encode i := by
  cases i with
  | readState => cases hr
  | setDataMode on => cases on <;> cases hr <;> rfl
  | _ =>
    cases hr
    rfl

/-- The word of a wire operation is an outbound frame (R70, R74). -/
theorem encode_eq_outboundFrame {i : Instr} (hwire : i.isWire = true) : ∃ fields, encode i = outboundFrame fields := by
  cases i with
  | readState => cases hwire
  | setDataMode on => cases on <;> exact ⟨_, rfl⟩
  | _ => exact ⟨_, rfl⟩

/-- Only POWER_ON has wake-up bytes, and these are preamble bytes (R84, R199). -/
theorem wakeBytes_of_requestOf {b : Baud} {i : Instr} {r : Request} (hr : requestOf b i = some r) :
    ∃ n, r.wakeBytes = List.replicate n preambleByte := by
  cases i with
  | readState => cases hr
  | powerOn =>
    cases hr
    exact ⟨wakeCount b, rfl⟩
  | _ =>
    cases hr
    exact ⟨0, rfl⟩

/-- Settles O7: without its wake-up bytes a request's write is its operation's word. -/
theorem everyWriteIsClassified : Obligations.EveryWriteIsClassified := by
  intro b i r hr hrange
  have hwire := isWire_of_requestOf hr
  obtain rfl := requestOf_request hr
  obtain ⟨n, hwake⟩ := wakeBytes_of_requestOf hr
  obtain ⟨fields, hfields⟩ := encode_eq_outboundFrame hwire
  refine (classifyWrite_eq_some_iff _ _).mpr ⟨hwire, hrange, ?_⟩
  rw [Request.out, hwake, encodeFrame_of_requestOf hr, hfields, stripWake_wake_outboundFrame]

end Sys2Proof.Machine
end

section
/-! SUPPORT. ENCODE's output read back (spec/41_frame_encoder.md R102, R104; spec/42_frame_decoder.md R124, R129): a frame is
what stands before its last terminator, and it is well-formed, or decodes, by whether that holds a terminator of its own;
from that the statements O9, O11, O14 and O16. -/

namespace Sys2Proof.Machine

/-! ### The parts of ENCODE's output -/

/-- What ENCODE writes between the preamble and the last terminator (R100). -/
def frameFields (c : Command) (dest src : Byte) : List Byte :=
  [dest, src, c.cmdNum] ++ Command.body c

theorem encodeFrame_eq_fields (c : Command) (dest src : Byte) :
    encodeFrame c dest src = preambleByte :: preambleByte :: frameFields c dest src ++ [terminatorByte] := rfl

/-- No field is the terminator when neither an address, the command number, the subcommand nor a payload byte is. -/
theorem terminatorByte_notMem_frameFields_iff {c : Command} {dest src : Byte} :
    terminatorByte ∉ frameFields c dest src ↔
      dest ≠ 0xFD ∧ src ≠ 0xFD ∧ c.cmdNum ≠ 0xFD ∧ c.subcmdNum ≠ some 0xFD ∧ ∀ d, c.data = some d → 0xFD ∉ d := by
  obtain ⟨cmd, sub, data⟩ := c
  cases sub <;> cases data <;>
    simp [frameFields, Command.body, terminatorByte, eq_comm]

/-- ENCODE's output up to the payload: five bytes, and the subcommand where there is one (R100). -/
def frameHead (c : Command) (dest src : Byte) : List Byte :=
  [preambleByte, preambleByte, dest, src, c.cmdNum] ++ c.subcmdNum.toList

theorem encodeFrame_eq_head (c : Command) (dest src : Byte) :
    encodeFrame c dest src = frameHead c dest src ++ c.data.getD [] ++ [terminatorByte] := by
  obtain ⟨cmd, sub, data⟩ := c
  cases sub <;> cases data <;> rfl

/-- Settles O9: the head by its six indices, and behind it the payload and the terminator. -/
theorem encodeLengthAndPositions : Obligations.EncodeLengthAndPositions := by
  rintro ⟨cmd, sub, data⟩ dest src s k pay hs hpay rfl
  obtain rfl : pay = data.getD [] := by cases data <;> exact hpay
  have hhead : (frameHead ⟨cmd, sub, data⟩ dest src).length = 5 + s := by cases sub <;> subst hs <;> rfl
  rw [encodeFrame_eq_head, ← hhead]
  refine ⟨by simp [hhead]; omega, rfl, rfl, rfl, rfl, rfl, ?_, fun j hj => ?_, ?_⟩
  · rintro x rfl
    rfl
  · rw [List.append_assoc, List.getElem?_append_right (Nat.le_add_right ..), Nat.add_sub_cancel_left,
      List.getElem?_append_left hj]
  · rw [← List.length_append, List.getElem?_append_right le_rfl, Nat.sub_self]
    rfl

/-! ### Well-formed frames -/

/-- A preamble, fields and a terminator are a well-formed frame when there are three fields or more and none is the
terminator (R73). -/
theorem frameWF_iff {fields : List Byte} (hlen : 3 ≤ fields.length) :
    FrameWF (preambleByte :: preambleByte :: fields ++ [terminatorByte]) ↔ terminatorByte ∉ fields := by
  have hat {k : Nat} (hk : k < fields.length) :
      (preambleByte :: preambleByte :: fields ++ [terminatorByte])[k + 2]? = fields[k]? := by
    simp [List.getElem?_append_left hk]
  constructor
  · rintro ⟨-, -, -, -, hinner⟩ hmem
    obtain ⟨k, hk, hget⟩ := List.mem_iff_getElem.mp hmem
    refine hinner (k + 2) (by omega) (by simp; omega) ?_
    rw [hat hk, List.getElem?_eq_getElem hk, hget]
  · intro hmem
    refine ⟨by simp; omega, rfl, rfl, by simp, fun k hk hkl hget => ?_⟩
    obtain ⟨k, rfl⟩ := Nat.exists_eq_add_of_le' hk
    simp only [List.cons_append, List.length_cons, List.length_append, List.length_nil] at hkl
    rw [hat (by omega)] at hget
    exact hmem (List.mem_of_getElem? hget)

/-- Settles O11: the frame's inner bytes are its fields. -/
theorem encodedFrameWellFormedIff : Obligations.EncodedFrameWellFormedIff := by
  intro c dest src
  rw [encodeFrame_eq_fields, frameWF_iff (by simp [frameFields]), terminatorByte_notMem_frameFields_iff]

/-! ### DECODE of ENCODE's output -/

/-- DECODE of a frame without a terminator among its fields tests the fields, whatever follows the frame (R120, R127). -/
theorem decodeFrame_encodeFrame {c : Command} {dest src : Byte} (h : terminatorByte ∉ frameFields c dest src)
    (tail : List Byte) (d s : Byte) :
    decodeFrame (encodeFrame c dest src ++ tail) d s = decodeAddressed d s (frameFields c dest src) := by
  have hpre : terminatorByte ∉ preambleByte :: preambleByte :: frameFields c dest src := by
    simpa [terminatorByte, preambleByte] using h
  rw [encodeFrame_eq_fields, List.append_assoc, List.singleton_append, decodeFrame_append tail d s hpre]
  simp [decodeBody]

/-- Addressed as expected, the fields give the command number and the body (R126). -/
theorem decodeAddressed_frameFields (c : Command) (d s : Byte) :
    decodeAddressed d s (frameFields c d s) = .ok { cmdNum := c.cmdNum, blob := Command.body c } :=
  if_pos ⟨rfl, rfl⟩

/-- Settles O14: the addresses are those expected, and what follows the command number is the body. -/
theorem frameRoundTripLaw : Obligations.FrameRoundTripLaw := by
  intro c d s hd hs hcmd hsub hdata
  have hfields := terminatorByte_notMem_frameFields_iff.mpr ⟨hd, hs, hcmd, hsub, hdata⟩
  rw [← List.append_nil (encodeFrame c d s), decodeFrame_encodeFrame hfields]
  exact decodeAddressed_frameFields c d s

/-- The word of every wire operation with arguments in range is a well-formed frame (R73, R81). -/
theorem encode_frameWF {i : Instr} (hwire : i.isWire = true) (hrange : i.wellFormed = true) : FrameWF (encode i) := by
  have hstatement : Laws.WireFrame.Statement i := by
    cases i with
    | powerOn => exact Laws.WireFrame.powerOn
    | powerOff => exact Laws.WireFrame.powerOff
    | gotoMemory n => exact Laws.WireFrame.gotoMemory n
    | selectBank n => exact Laws.WireFrame.selectBank n
    | setReceive => exact Laws.WireFrame.setReceive
    | setTransmit => exact Laws.WireFrame.setTransmit
    | setDataMode on => exact Laws.WireFrame.setDataMode on
    | readState => exact Laws.WireFrame.readState
  exact (hstatement hwire hrange).1

/-- The frame of a request has no terminator among its fields, the arguments being in range (R81). -/
theorem terminatorByte_notMem_fields_of_requestOf {b : Baud} {i : Instr} {r : Request} (hr : requestOf b i = some r)
    (hrange : i.wellFormed = true) : terminatorByte ∉ frameFields r.command xcvrAddr ctrlAddr := by
  have hwf := encode_frameWF (isWire_of_requestOf hr) hrange
  rw [← encodeFrame_of_requestOf hr, encodeFrame_eq_fields] at hwf
  exact (frameWF_iff (by simp [frameFields])).mp hwf

/-- Settles O16: the frame is addressed to the transceiver, and DECODE expects the controller's address there. -/
theorem ownFrameIsNoResponse : Obligations.OwnFrameIsNoResponse := by
  intro b i r tail hr hrange
  refine (decodeFrame_encodeFrame (terminatorByte_notMem_fields_of_requestOf hr hrange) tail 0xE0 0x88).trans ?_
  simp [decodeAddressed, frameFields, xcvrAddr]

end Sys2Proof.Machine
end

section
/-! SUPPORT. What the steps of a request in flight, the port and the session do to requests and answers (R160 to R175, R220):
who is in flight, who is held, how many are accounted for and how soon a request ends; from that the statements O29, O30,
O54, O56 and O57. -/

namespace Sys2Proof.Machine

variable {s t : State} {r : Request} {i : Instr}

@[simp] theorem Seq.inFlight_closed : Seq.closed.inFlight = false := rfl
@[simp] theorem Seq.inFlight_idle : Seq.idle.inFlight = false := rfl
@[simp] theorem Seq.inFlight_sent : Seq.sent.inFlight = true := rfl
@[simp] theorem Seq.inFlight_awaitingByte : Seq.awaitingByte.inFlight = true := rfl
@[simp] theorem Seq.inFlight_gotTerminator : Seq.gotTerminator.inFlight = true := rfl
@[simp] theorem Seq.inFlight_timedOut : Seq.timedOut.inFlight = true := rfl

/-! ### The sequencer with a request in flight -/

/-- From `s` to `t` nothing waiting was touched, and the request in flight stays so or has ended (R160, R172). -/
def StaysOrEnds (s t : State) : Prop :=
  t.held = s.held ∧ t.schedule = s.schedule ∧ ((t.seq.inFlight = true ∧ t.cur = s.cur) ∨ t.seq = .idle)

theorem staysOrEnds_writeStep (r : Request) (s : State) : StaysOrEnds s (writeStep r s) := by
  obtain ⟨-, hw⟩ | ⟨k, -, hw⟩ := writeStep_cases r s <;> rw [hw]
  · exact ⟨rfl, rfl, .inl ⟨rfl, rfl⟩⟩
  · exact ⟨rfl, rfl, .inr rfl⟩

theorem staysOrEnds_collectPass (hseq : s.seq = .awaitingByte) (r : Request) : StaysOrEnds s (collectPass r s) := by
  obtain ⟨-, hp⟩ | ⟨-, -, hp⟩ | ⟨-, -, ⟨-, hp⟩ | ⟨-, hp⟩ | ⟨-, hp⟩ | ⟨b, -, -, hp⟩⟩ := collectPass_cases r s <;> rw [hp]
  case inr.inr.inl => exact ⟨rfl, rfl, .inr rfl⟩
  case inr.inr.inr.inr.inr => exact ⟨rfl, rfl, .inl ⟨by simp [hseq], rfl⟩⟩
  all_goals exact ⟨rfl, rfl, .inl ⟨rfl, rfl⟩⟩

theorem staysOrEnds_of_advance (hflight : s.seq.inFlight = true) (ha : advance s = .next t) : StaysOrEnds s t := by
  obtain ⟨hseq, -⟩ | ⟨hseq, -⟩ | ⟨r, -, -, rfl⟩ | ⟨r, -, hseq, rfl⟩ | ⟨r, -, -, rfl⟩ | ⟨r, why, -, -, -, rfl⟩ :=
    advance_cases ha
  · simp [hseq] at hflight
  · simp [hseq] at hflight
  · exact staysOrEnds_writeStep r s
  · exact staysOrEnds_collectPass hseq r
  · exact ⟨rfl, rfl, .inr rfl⟩
  · exact ⟨rfl, rfl, .inr rfl⟩

/-! ### One request in flight -/

/-- From `s` to `t` the request in flight is not replaced by another, and only IDLE lets one in (R160, R174). -/
def OneInFlight (s t : State) : Prop :=
  (s.seq.inFlight = true → t.seq.inFlight = true → t.cur = s.cur) ∧
  (s.seq.inFlight = false → t.seq.inFlight = true → s.seq = .idle ∧ t.seq = .sent)

theorem oneInFlight_of_same (hseq : t.seq = s.seq) (hcur : t.cur = s.cur) : OneInFlight s t :=
  ⟨fun _ _ => hcur, fun hs ht => absurd hs (by simp [← hseq, ht])⟩

theorem oneInFlight_of_quiet (hquiet : t.seq.inFlight = false) : OneInFlight s t :=
  ⟨fun _ ht => absurd ht (by simp [hquiet]), fun _ ht => absurd ht (by simp [hquiet])⟩

theorem oneInFlight_of_accept (hidle : s.seq = .idle) (hsent : t.seq = .sent) : OneInFlight s t :=
  ⟨fun hs => absurd hs (by simp [hidle]), fun _ _ => ⟨hidle, hsent⟩⟩

theorem StaysOrEnds.oneInFlight (h : StaysOrEnds s t) (hflight : s.seq.inFlight = true) : OneInFlight s t := by
  obtain ⟨-, -, ⟨-, hcur⟩ | hidle⟩ := h
  · exact ⟨fun _ _ => hcur, fun hs => absurd hflight (by simp [hs])⟩
  · exact oneInFlight_of_quiet (by simp [hidle])

theorem oneInFlight_of_advance (ha : advance s = .next t) : OneInFlight s t := by
  cases hflight : s.seq.inFlight with
  | true => exact (staysOrEnds_of_advance hflight ha).oneInFlight hflight
  | false =>
    cases hseq : s.seq with
    | closed =>
      obtain rfl := Host.Outcome.next.inj ((advance_of_closed hseq).symm.trans ha)
      exact oneInFlight_of_same rfl rfl
    | idle =>
      obtain rfl : serveHeld s = t := by simpa [advance, hseq] using ha
      obtain ⟨-, hs⟩ | ⟨k, r, -, -, hs⟩ := serveHeld_cases s <;> rw [hs]
      · exact oneInFlight_of_same rfl rfl
      · exact oneInFlight_of_accept hseq rfl
    | sent | awaitingByte | gotTerminator | timedOut => simp [hseq] at hflight

theorem oneInFlight_of_exec (he : exec i s = .next t) : OneInFlight s t := by
  obtain ⟨code, snap, ha, -⟩ | ⟨r, -, -, -, -, ha⟩ | ⟨r, -, -, hidle, ha⟩ := exec_cases i s <;>
    obtain rfl := Host.Outcome.next.inj (ha.symm.trans he)
  · exact oneInFlight_of_same rfl rfl
  · exact oneInFlight_of_same rfl rfl
  · exact oneInFlight_of_accept hidle rfl

/-- A bring-up begins with nothing in flight (R250). -/
theorem State.openChannel_inFlight (s : State) (setup : SessionSetup) (b : Baud) :
    (s.openChannel setup b).seq.inFlight = false := by
  cases ho : setup.openSucceeds <;> simp [ho]

/-- Settles O54: a request in flight stays or ends, and only the acceptance in IDLE lets one in. -/
theorem atMostOneInFlight : Obligations.AtMostOneInFlight := by
  intro s t h
  change OneInFlight s t
  obtain ⟨-, ha⟩ | ⟨i, rest, -, -, he⟩ | ⟨level, rest, -, rfl⟩ | ⟨rest, -, -, -, rfl⟩ |
    ⟨setup, rest, b, -, -, -, -, -, rfl⟩ := step_cases h
  · exact oneInFlight_of_advance (s := s.takeEvent s.schedule.tail) ha
  · exact oneInFlight_of_exec (s := s.takeEvent rest) he
  · exact oneInFlight_of_same rfl rfl
  · exact oneInFlight_of_same rfl rfl
  · exact oneInFlight_of_quiet (State.openChannel_inFlight _ setup b)

/-! ### Held requests -/

/-- The port takes no held request away (R163). -/
theorem held_of_exec (he : exec i s = .next t) : s.held <+: t.held := by
  obtain ⟨code, snap, ha, -⟩ | ⟨r, -, -, -, -, ha⟩ | ⟨r, -, -, -, ha⟩ := exec_cases i s <;>
    obtain rfl := Host.Outcome.next.inj (ha.symm.trans he)
  · exact List.prefix_rfl
  · exact List.prefix_append s.held [r]
  · exact List.prefix_rfl

theorem held_of_step (hflight : s.seq.inFlight = true) (h : step s = .next t) : s.held <+: t.held := by
  obtain ⟨-, ha⟩ | ⟨i, rest, -, -, he⟩ | ⟨level, rest, -, rfl⟩ | ⟨rest, -, hquiet, -⟩ |
    ⟨setup, rest, b, -, -, -, -, -, rfl⟩ := step_cases h
  · obtain ⟨hheld, -⟩ := staysOrEnds_of_advance (s := s.takeEvent s.schedule.tail) hflight ha
    exact hheld ▸ List.prefix_rfl
  · exact held_of_exec (s := s.takeEvent rest) he
  · exact List.prefix_rfl
  · exact absurd (hquiet.symm.trans hflight) (by decide)
  · exact List.prefix_rfl

/-- In IDLE the held request that the next choice names is accepted (R163). -/
theorem step_of_pick {k : Nat} {more : List Nat} (hsched : s.schedule = []) (hidle : s.seq = .idle)
    (hr : s.held[k]? = some r) (hpicks : s.picks = k :: more) : step s = .next ((s.unhold k).accept r) := by
  have hk : k < s.held.length := (List.getElem?_eq_some_iff.mp hr).1
  have hnext : s.nextPick % s.held.length = k := by rw [State.nextPick, hpicks, Nat.mod_eq_of_lt hk]
  simp only [step_of_no_event hsched, advance, hidle, serveHeld, hnext, hr]

/-- Settles O29: BLOCK holds, no step in flight takes a held request away, and the choice in IDLE may name any of them. -/
theorem heldUntilIdleThenAnyOrder : Obligations.HeldUntilIdleThenAnyOrder := by
  refine ⟨fun s i r => exec_of_block, fun s t => held_of_step, fun s k r more hsched hidle hr hpicks => ?_⟩
  rw [step_of_pick hsched hidle hr hpicks]
  simp [State.accept, State.unhold, hpicks, drawsAfter]

/-! ### The frame of the port -/

/-- Settles O30: an answer, a hold or an accept, each of which writes only the fields it names. -/
theorem portFrame : Obligations.PortFrame := by
  intro i s t he
  obtain ⟨code, snap, ha, -⟩ | ⟨r, hr, -, -, -, ha⟩ | ⟨r, hr, hrange, hidle, ha⟩ := exec_cases i s <;>
    obtain rfl := Host.Outcome.next.inj (ha.symm.trans he)
  · exact ⟨rfl, rfl, rfl, rfl, rfl, rfl, rfl, rfl, rfl, rfl, rfl, rfl, rfl, rfl, rfl, fun _ => ⟨rfl, rfl⟩,
      .inl ⟨rfl, rfl, rfl, _, rfl, rfl⟩⟩
  · exact ⟨rfl, rfl, rfl, rfl, rfl, rfl, rfl, rfl, rfl, rfl, rfl, rfl, rfl, rfl, rfl, fun _ => ⟨rfl, rfl⟩,
      .inr (.inl ⟨rfl, rfl, rfl, r, requestOf_request hr, rfl⟩)⟩
  · refine ⟨rfl, rfl, rfl, rfl, rfl, rfl, rfl, rfl, rfl, rfl, rfl, rfl, rfl, rfl, rfl, ?_,
      .inr (.inr ⟨hidle, isWire_of_requestOf hr, hrange, rfl, rfl, rfl, r, requestOf_request hr, rfl⟩)⟩
    rintro (hbusy | rfl)
    · exact absurd hidle hbusy
    · cases hr

/-! ### Every request counted once -/

theorem accounted_answer (s : State) (i : Instr) (code : Result) (snap : Option RadioState) :
    (s.answer i code snap).accounted = s.accounted + 1 := by
  simp only [State.accounted, State.answer_answers, State.answer_held, State.answer_seq, List.length_append,
    List.length_singleton]
  omega

theorem accounted_hold (s : State) (r : Request) : (s.hold r).accounted = s.accounted + 1 := by
  simp only [State.accounted, State.hold_answers, State.hold_held, State.hold_seq, List.length_append,
    List.length_singleton]
  omega

theorem accounted_accept (hquiet : s.seq.inFlight = false) (r : Request) :
    (s.accept r).accounted = s.accounted + 1 := by
  simp [State.accounted, hquiet]

/-- A request that ends is answered instead of in flight (R172). -/
theorem accounted_finish (hflight : s.seq.inFlight = true) (r : Request) (code : Result) :
    (s.finish r code).accounted = s.accounted := by
  simp only [State.accounted, State.finish_answers, State.finish_held, State.finish_seq, hflight, List.length_append,
    List.length_singleton, Seq.inFlight_idle, Bool.toNat_true, Bool.toNat_false]
  omega

/-- Every request put on the port is one more accounted for (R161). -/
theorem accounted_exec (he : exec i s = .next t) : t.accounted = s.accounted + 1 := by
  obtain ⟨code, snap, ha, -⟩ | ⟨r, -, -, -, -, ha⟩ | ⟨r, -, -, hidle, ha⟩ := exec_cases i s <;>
    obtain rfl := Host.Outcome.next.inj (ha.symm.trans he)
  · exact accounted_answer s i code snap
  · exact accounted_hold s r
  · exact accounted_accept (by rw [hidle]; rfl) r

/-- A held request that is accepted is in flight instead of held (R163). -/
theorem accounted_serveHeld (hidle : s.seq = .idle) : (serveHeld s).accounted = s.accounted := by
  obtain ⟨-, hs⟩ | ⟨k, r, hk, -, hs⟩ := serveHeld_cases s <;> rw [hs]
  have hlen : (s.held.eraseIdx k).length + 1 = s.held.length := by
    rw [List.length_eraseIdx_of_lt hk]
    omega
  rw [accounted_accept (by rw [State.unhold_seq, hidle]; rfl)]
  simp only [State.accounted, State.unhold_answers, State.unhold_held, State.unhold_seq]
  omega

theorem accounted_writeStep (hseq : s.seq = .sent) (r : Request) : (writeStep r s).accounted = s.accounted := by
  obtain ⟨-, hw⟩ | ⟨k, -, hw⟩ := writeStep_cases r s <;> rw [hw]
  · simp [State.accounted, hseq]
  · exact accounted_finish (s := (s.observe .outbound r.out).chanWrite r.out) (by simp [hseq]) r .ioError

theorem accounted_collectPass (hseq : s.seq = .awaitingByte) (r : Request) :
    (collectPass r s).accounted = s.accounted := by
  obtain ⟨-, hp⟩ | ⟨-, -, hp⟩ | ⟨-, -, ⟨-, hp⟩ | ⟨-, hp⟩ | ⟨-, hp⟩ | ⟨b, -, -, hp⟩⟩ := collectPass_cases r s <;> rw [hp]
  case inr.inr.inl =>
    exact accounted_finish (s := s.attemptRead.observe .inbound s.rxbuf) (by simp [hseq]) r .ioError
  all_goals simp [State.accounted, hseq]

theorem accounted_complete (hflight : s.seq.inFlight = true) (r : Request) (code : Result) :
    (complete r code s).accounted = s.accounted :=
  accounted_finish (s := s.applyIfOk r code) hflight r code

/-- The sequencer's own step adds and loses no request (R160). -/
theorem accounted_advance (ha : advance s = .next t) : t.accounted = s.accounted := by
  obtain ⟨-, rfl⟩ | ⟨hseq, rfl⟩ | ⟨r, -, hseq, rfl⟩ | ⟨r, -, hseq, rfl⟩ | ⟨r, -, hseq, rfl⟩ | ⟨r, why, -, hseq, -, rfl⟩ :=
    advance_cases ha
  · rfl
  · exact accounted_serveHeld hseq
  · exact accounted_writeStep hseq r
  · exact accounted_collectPass hseq r
  · exact accounted_complete (by rw [hseq]; rfl) r _
  · exact accounted_complete (by rw [hseq]; rfl) r _

/-- The end of a session drops the requests still held (R254, R263). -/
theorem accounted_closeChannel (s : State) : s.closeChannel.accounted + s.held.length = s.accounted := by
  simp only [State.accounted, State.closeChannel_answers, State.closeChannel_held, State.closeChannel_seq,
    List.length_nil]
  omega

theorem accounted_openChannel (hquiet : s.seq.inFlight = false) (setup : SessionSetup) (b : Baud) :
    (s.openChannel setup b).accounted = s.accounted := by
  simp only [State.accounted, State.openChannel_answers, State.openChannel_held, State.openChannel_inFlight, hquiet]

/-- With no request on the port, a step of a session adds and loses no request. -/
theorem accounted_step (hport : ∀ i rest, s.schedule ≠ .request i :: rest) (hsame : s.sameSession)
    (h : step s = .next t) : t.accounted = s.accounted := by
  obtain ⟨-, ha⟩ | ⟨i, rest, hs, -⟩ | ⟨level, rest, -, rfl⟩ | ⟨rest, hs, -⟩ | ⟨setup, rest, b, hs, -⟩ := step_cases h
  · exact accounted_advance (s := s.takeEvent s.schedule.tail) ha
  · exact absurd hs (hport i rest)
  · rfl
  · exact absurd hs (hsame.1 rest)
  · exact absurd hs (hsame.2 setup rest)

/-- Settles O56: each clause is what its kind of event does to the count. -/
theorem everyRequestCountedOnce : Obligations.EveryRequestCountedOnce := by
  refine fun s t h => ⟨?_, fun hport hsame => accounted_step hport hsame h, ?_, ?_⟩
  · rintro ⟨i, rest, hs⟩
    obtain ⟨-, he⟩ := present_cases ((step_of_event hs).symm.trans h)
    exact accounted_exec (s := s.takeEvent rest) he
  · rintro ⟨rest, hs⟩
    obtain ⟨-, -, rfl⟩ := endSession_cases ((step_of_event hs).symm.trans h)
    exact ⟨accounted_closeChannel (s.takeEvent rest), rfl⟩
  · rintro ⟨setup, rest, hs⟩ hquiet
    obtain ⟨-, b, -, -, -, rfl⟩ := bringUp_cases ((step_of_event hs).symm.trans h)
    exact accounted_openChannel (s := s.takeEvent rest) hquiet setup b

/-! ### How soon a request in flight ends -/

/-- How many steps a request in flight may still take: its write, a pass for each attempt left, one pass that ends COLLECT
at the bound, and the completion step (R146, R149). -/
def State.stepsLeft (s : State) : Nat :=
  match s.seq with
  | .closed => 0
  | .idle => 0
  | .sent => s.config.maxReadAttempts + 3
  | .awaitingByte => s.config.maxReadAttempts - s.attempts + 2
  | .gotTerminator => 1
  | .timedOut => 1

theorem State.stepsLeft_le (s : State) : s.stepsLeft ≤ s.config.maxReadAttempts + 3 := by
  unfold State.stepsLeft
  split <;> omega

theorem stepsLeft_collectPass (hseq : s.seq = .awaitingByte) (hle : s.attempts ≤ s.config.maxReadAttempts) (r : Request) :
    (collectPass r s).stepsLeft < s.stepsLeft := by
  obtain ⟨-, hp⟩ | ⟨-, -, hp⟩ | ⟨-, hmax, ⟨-, hp⟩ | ⟨-, hp⟩ | ⟨-, hp⟩ | ⟨b, -, -, hp⟩⟩ := collectPass_cases r s <;>
    rw [hp] <;> simp [State.stepsLeft, hseq]
  omega

/-- Each step of the sequencer on a request in flight leaves fewer steps to it. -/
theorem stepsLeft_advance (h : RegInv s) (hflight : s.seq.inFlight = true) (ha : advance s = .next t) :
    t.stepsLeft < s.stepsLeft := by
  obtain ⟨hseq, -⟩ | ⟨hseq, -⟩ | ⟨r, -, hseq, rfl⟩ | ⟨r, -, hseq, rfl⟩ | ⟨r, -, hseq, rfl⟩ | ⟨r, why, -, hseq, -, rfl⟩ :=
    advance_cases ha
  · simp [hseq] at hflight
  · simp [hseq] at hflight
  · obtain ⟨-, hw⟩ | ⟨k, -, hw⟩ := writeStep_cases r s <;> rw [hw] <;> simp [State.stepsLeft, hseq]
  · exact stepsLeft_collectPass hseq h.attempts_le r
  · simp [State.stepsLeft, hseq, complete]
  · simp [State.stepsLeft, hseq, complete]

/-- Left alone, a request in flight ends within the steps left to it, with nothing held lost and every request accounted
for (R149, R172). -/
theorem runSteps_ends (n : Nat) (s : State) (h : RegInv s) (hsched : s.schedule = []) (hflight : s.seq.inFlight = true)
    (hn : s.stepsLeft ≤ n) :
    ∃ k t, k ≤ n ∧ runSteps k s = .next t ∧ t.seq = .idle ∧ t.held = s.held ∧ t.accounted = s.accounted := by
  induction n generalizing s with
  | zero =>
    obtain ⟨t, ha⟩ := h.advance_next
    exact absurd (stepsLeft_advance h hflight ha) (by omega)
  | succ n ih =>
    obtain ⟨t, ha⟩ := h.advance_next
    have hstep : step s = .next t := (step_of_no_event hsched).trans ha
    obtain ⟨hheld, hschedule, ⟨hflight', -⟩ | hidle⟩ := staysOrEnds_of_advance hflight ha
    · have hless := stepsLeft_advance h hflight ha
      obtain ⟨k, u, hk, hrun, hidle, hheld', haccounted⟩ :=
        ih t (h.advance ha) (hschedule.trans hsched) hflight' (by omega)
      exact ⟨k + 1, u, by omega, (runSteps_succ hstep).trans hrun, hidle, hheld'.trans hheld,
        haccounted.trans (accounted_advance ha)⟩
    · exact ⟨1, t, by omega, (runSteps_succ hstep).trans (runSteps_zero t), hidle, hheld, accounted_advance ha⟩

/-- Settles O57: the steps left are within the bound, and where the request is no longer in flight and nothing held was lost,
there is one answer more. -/
theorem requestInFlightEnds : Obligations.RequestInFlightEnds := by
  intro s h hsched hflight
  obtain ⟨k, t, hk, hrun, hidle, hheld, haccounted⟩ := runSteps_ends _ s h hsched hflight s.stepsLeft_le
  refine ⟨k, t, hk, hrun, hidle, ?_⟩
  simp only [State.accounted, hidle, hheld, hflight, Seq.inFlight_idle, Bool.toNat_true, Bool.toNat_false] at haccounted
  omega

end Sys2Proof.Machine
end

section
/-! SUPPORT. What a step puts on the channel, takes off it and answers (spec/20_memory.md R52, R58, R64; R167, R175, R229): the
write step alone writes, a read attempt alone reads, and NOT_ACKNOWLEDGED is ACK_PREDICATE's alone; from that the
statements O47, O48 and O55. -/

namespace Sys2Proof.Machine

variable {s t : State} {r : Request} {i : Instr}

/-! ### The TX stream -/

/-- From `s` to `t` the TX stream stays, or it grows by the write of the request in flight, whole or cut short where the write
fails (R52, R175). -/
def TxGrowsByWrite (s t : State) : Prop :=
  t.txStream = s.txStream ∨
  (s.seq = .sent ∧ ∃ r, s.cur = some r ∧
    ((s.nextWrite = .ok ∧ t.txStream = s.txStream ++ r.out) ∨
      ∃ k, s.nextWrite = .ioError k ∧ t.txStream = s.txStream ++ r.out.take k))

/-- A call that sends no bytes leaves the TX stream (R50). -/
theorem State.txStream_of_silent_call {c : ChanCall} (hcalls : t.calls = s.calls ++ [c]) (hsilent : c.sentBytes = []) :
    t.txStream = s.txStream := by
  rw [State.txStream_of_calls hcalls, hsilent, List.append_nil]

theorem txGrowsByWrite_writeStep (hseq : s.seq = .sent) (hcur : s.cur = some r) : TxGrowsByWrite s (writeStep r s) := by
  obtain ⟨hn, hw⟩ | ⟨k, hn, hw⟩ := writeStep_cases r s
  · have hcalls : (writeStep r s).calls = s.calls ++ [.write r.out .ok] := by simp [hw, hn]
    exact .inr ⟨hseq, r, hcur, .inl ⟨hn, State.txStream_of_calls hcalls⟩⟩
  · have hcalls : (writeStep r s).calls = s.calls ++ [.write r.out (.ioError k)] := by simp [hw, hn]
    exact .inr ⟨hseq, r, hcur, .inr ⟨k, hn, State.txStream_of_calls hcalls⟩⟩

theorem collectPass_txStream (r : Request) (s : State) : (collectPass r s).txStream = s.txStream := by
  obtain ⟨-, hp⟩ | ⟨-, -, hp⟩ | ⟨-, -, ⟨-, hp⟩ | ⟨-, hp⟩ | ⟨-, hp⟩ | ⟨b, -, -, hp⟩⟩ := collectPass_cases r s <;> rw [hp]
  · rfl
  · rfl
  all_goals exact State.txStream_of_silent_call (c := .read s.nextRead) rfl rfl

theorem txGrowsByWrite_advance (ha : advance s = .next t) : TxGrowsByWrite s t := by
  obtain ⟨-, rfl⟩ | ⟨-, rfl⟩ | ⟨r, hcur, hseq, rfl⟩ | ⟨r, -, -, rfl⟩ | ⟨r, -, -, rfl⟩ | ⟨r, why, -, -, -, rfl⟩ :=
    advance_cases ha
  · exact .inl rfl
  · obtain ⟨-, hs⟩ | ⟨k, r, -, -, hs⟩ := serveHeld_cases s <;> rw [hs] <;> exact .inl rfl
  · exact txGrowsByWrite_writeStep hseq hcur
  · exact .inl (collectPass_txStream r s)
  · exact .inl rfl
  · exact .inl rfl

theorem exec_calls (he : exec i s = .next t) : t.calls = s.calls := by
  obtain ⟨-, -, -, -, -, -, hcalls, -⟩ := portFrame i s t he
  exact hcalls

/-- Settles O55: the write step's one call carries the request's bytes, and no other call carries any. -/
theorem txStreamIsWholeWrites : Obligations.TxStreamIsWholeWrites := by
  intro s t h
  obtain ⟨-, ha⟩ | ⟨i, rest, -, -, he⟩ | ⟨level, rest, -, rfl⟩ | ⟨rest, -, -, -, rfl⟩ |
    ⟨setup, rest, b, -, -, -, -, -, rfl⟩ := step_cases h
  · exact txGrowsByWrite_advance (s := s.takeEvent s.schedule.tail) ha
  · exact .inl (congrArg (List.flatMap ChanCall.sentBytes) (exec_calls (s := s.takeEvent rest) he))
  · exact .inl rfl
  · exact .inl (State.txStream_of_silent_call (c := .closed) rfl rfl)
  · exact .inl (State.txStream_of_silent_call (c := .opened (setup.configuration b) setup.openSucceeds) rfl rfl)

/-! ### The answers the channel has still to give -/

/-- From `s` to `t` the channel's coming answers stay, or one read attempt of a COLLECT took the next (R59, R64). -/
def ReadsByAttempt (s t : State) : Prop :=
  t.reads = s.reads ∨
  (s.seq = .awaitingByte ∧ s.cancel = false ∧ s.attempts ≠ s.config.maxReadAttempts ∧ t.reads = s.reads.tail ∧
    t.calls = s.calls ++ [.read s.nextRead])

theorem readsByAttempt_collectPass (hseq : s.seq = .awaitingByte) (r : Request) : ReadsByAttempt s (collectPass r s) := by
  obtain ⟨-, hp⟩ | ⟨-, -, hp⟩ | ⟨hc, ha, ⟨-, hp⟩ | ⟨-, hp⟩ | ⟨-, hp⟩ | ⟨b, -, -, hp⟩⟩ := collectPass_cases r s <;> rw [hp]
  · exact .inl rfl
  · exact .inl rfl
  all_goals exact .inr ⟨hseq, hc, ha, rfl, rfl⟩

theorem readsByAttempt_advance (ha : advance s = .next t) : ReadsByAttempt s t := by
  obtain ⟨-, rfl⟩ | ⟨-, rfl⟩ | ⟨r, -, -, rfl⟩ | ⟨r, -, hseq, rfl⟩ | ⟨r, -, -, rfl⟩ | ⟨r, why, -, -, -, rfl⟩ :=
    advance_cases ha
  · exact .inl rfl
  · obtain ⟨-, hs⟩ | ⟨k, r, -, -, hs⟩ := serveHeld_cases s <;> rw [hs] <;> exact .inl rfl
  · obtain ⟨-, hw⟩ | ⟨k, -, hw⟩ := writeStep_cases r s <;> rw [hw] <;> exact .inl rfl
  · exact readsByAttempt_collectPass hseq r
  · exact .inl rfl
  · exact .inl rfl

theorem exec_reads (he : exec i s = .next t) : t.reads = s.reads := by
  obtain ⟨-, -, -, -, -, -, -, -, -, -, hreads, -⟩ := portFrame i s t he
  exact hreads

/-- Settles O47: a pass of COLLECT that is neither cancelled nor at the bound makes one read attempt, and nothing else asks the
channel for a byte. -/
theorem backlogNeverDrained : Obligations.BacklogNeverDrained := by
  intro s t h
  obtain ⟨-, ha⟩ | ⟨i, rest, -, -, he⟩ | ⟨level, rest, -, rfl⟩ | ⟨rest, -, -, -, rfl⟩ |
    ⟨setup, rest, b, -, -, -, -, -, rfl⟩ := step_cases h
  · exact readsByAttempt_advance (s := s.takeEvent s.schedule.tail) ha
  · exact .inl (exec_reads (s := s.takeEvent rest) he)
  all_goals exact .inl rfl

/-! ### NOT_ACKNOWLEDGED -/

/-- The default predicate accepts every decoded frame, so no response is judged NOT_ACKNOWLEDGED (R167, R229). -/
theorem resultOfFrame_acceptAll_ne (c : Command) (rx : List Byte) :
    resultOfFrame .acceptAll c rx ≠ .notAcknowledged := by
  cases hd : decodeFrame rx ctrlAddr xcvrAddr with
  | error e => cases e <;> simp [resultOfFrame_of_error hd]
  | ok p => simp [resultOfFrame_of_ok hd, ackAccepts]

theorem resultOfTimeout_ne_notAcknowledged (why : Reason) (rx : List Byte) :
    resultOfTimeout why rx ≠ .notAcknowledged := by
  cases why with
  | silent => by_cases hrx : rx = [] <;> simp [resultOfTimeout, hrx]
  | exhausted | cancelled => simp [resultOfTimeout]

theorem resultOf_ne_notAcknowledged {judged : Result} (h : judged ≠ .notAcknowledged) :
    resultOf r judged ≠ .notAcknowledged := by
  rw [resultOf_eq_ite]
  split_ifs
  · decide
  · exact h

/-- From `s` to `t` the record of answers stays, or grows by one whose code is another than NOT_ACKNOWLEDGED. -/
def AnswersAcknowledged (s t : State) : Prop :=
  t.answers = s.answers ∨ ∃ a : Answer, a.code ≠ .notAcknowledged ∧ t.answers = s.answers ++ [a]

theorem answersAcknowledged_writeStep (r : Request) (s : State) : AnswersAcknowledged s (writeStep r s) := by
  obtain ⟨-, hw⟩ | ⟨k, -, hw⟩ := writeStep_cases r s <;> rw [hw]
  · exact .inl rfl
  · exact .inr ⟨⟨r.request, .ioError, none⟩, nofun, rfl⟩

theorem answersAcknowledged_collectPass (r : Request) (s : State) : AnswersAcknowledged s (collectPass r s) := by
  obtain ⟨-, hp⟩ | ⟨-, -, hp⟩ | ⟨-, -, ⟨-, hp⟩ | ⟨-, hp⟩ | ⟨-, hp⟩ | ⟨b, -, -, hp⟩⟩ := collectPass_cases r s <;> rw [hp]
  case inr.inr.inl => exact .inr ⟨⟨r.request, .ioError, none⟩, nofun, rfl⟩
  all_goals exact .inl rfl

theorem answersAcknowledged_advance (hack : s.config.ackPredicate = .acceptAll) (ha : advance s = .next t) :
    AnswersAcknowledged s t := by
  obtain ⟨-, rfl⟩ | ⟨-, rfl⟩ | ⟨r, -, -, rfl⟩ | ⟨r, -, -, rfl⟩ | ⟨r, -, -, rfl⟩ | ⟨r, why, -, -, -, rfl⟩ :=
    advance_cases ha
  · exact .inl rfl
  · exact .inl (serveHeld_answers s)
  · exact answersAcknowledged_writeStep r s
  · exact answersAcknowledged_collectPass r s
  · rw [hack]
    exact .inr ⟨⟨r.request, _, none⟩, resultOf_ne_notAcknowledged (resultOfFrame_acceptAll_ne _ _), rfl⟩
  · exact .inr ⟨⟨r.request, _, none⟩, resultOf_ne_notAcknowledged (resultOfTimeout_ne_notAcknowledged _ _), rfl⟩

theorem answersAcknowledged_exec (he : exec i s = .next t) : AnswersAcknowledged s t := by
  obtain ⟨code, snap, ha, -, hcode, -⟩ | ⟨r, -, -, -, -, ha⟩ | ⟨r, -, -, -, ha⟩ := exec_cases i s <;>
    obtain rfl := Host.Outcome.next.inj (ha.symm.trans he)
  · exact .inr ⟨⟨i, code, snap⟩, hcode, rfl⟩
  · exact .inl rfl
  · exact .inl rfl

theorem answersAcknowledged_step (hack : s.config.ackPredicate = .acceptAll) (h : step s = .next t) :
    AnswersAcknowledged s t := by
  obtain ⟨-, ha⟩ | ⟨i, rest, -, -, he⟩ | ⟨level, rest, -, rfl⟩ | ⟨rest, -, -, -, rfl⟩ |
    ⟨setup, rest, b, -, -, -, -, -, rfl⟩ := step_cases h
  · exact answersAcknowledged_advance (s := s.takeEvent s.schedule.tail) hack ha
  · exact answersAcknowledged_exec (s := s.takeEvent rest) he
  all_goals exact .inl rfl

/-- Settles O48: the answer that a step gives is the one by which the record grew. -/
theorem defaultPredicateAcknowledges : Obligations.DefaultPredicateAcknowledges := by
  intro s t a hack h ha
  obtain hsame | ⟨a', hcode, hgrows⟩ := answersAcknowledged_step hack h
  · simp [ha] at hsame
  · obtain rfl : a' = a := by simpa using hgrows.symm.trans ha
    exact hcode

end Sys2Proof.Machine
end

section
/-! SUPPORT. One step of the whole (spec/00_scope.md R11; R250, R254) by the event that waits, and the state after a bring-up
(spec/10_state.md R34); from that the statements O17, O21, O23 and O51. -/

namespace Sys2Proof.Machine

/-- Settles O17: the values of `State.reset`, whose mirror is legal whatever RADIO_STATE_INIT's free values are. -/
theorem resetRegisters : Obligations.ResetRegisters :=
  ⟨rfl, rfl, rfl, rfl, rfl, radioStateInit_legal, rfl, rfl, rfl, rfl, rfl⟩

/-- Settles O51: one `open` that succeeded, and no read attempt allowed yet. -/
theorem resetMeetsCallOrder : Obligations.ResetMeetsCallOrder :=
  callOrder_of_linkUp (p := .noReads) rfl rfl rfl nofun nofun

/-- Settles O21: the end of a session tests first whether a request is in flight. -/
theorem closeDuringRequestRefused : Obligations.CloseDuringRequestRefused := by
  intro s rest hsched hflight
  simp [step_of_event hsched, handle, endSession, hflight]

/-- A request on the port of a session is the operation (R161). -/
theorem present_of_inSession {i : Instr} {s : State} (h : s.inSession = true) : present i s = exec i s := by
  rw [present, h]

/-- Without a session there is no port (R250, R254). -/
theorem present_of_no_session {i : Instr} {s : State} (h : s.inSession = false) : present i s = .refused .noSession := by
  rw [present, h]

/-- A word that decodes puts its operation on the port ahead of every event (R190). -/
theorem step_withFetchWord {s : State} {nbits w : Nat} {i : Instr} (hword : decodeTableWord nbits w = some i) :
    step (s.withFetchWord nbits w) = present i s := by
  rw [State.withFetchWord, hword]
  rfl

/-- Settles O23: the event that waits is taken off the schedule and handled, and a decoded word is such an event. -/
theorem stepRunsTheRequest : Obligations.StepRunsTheRequest := by
  refine ⟨fun s i rest hsched => ⟨fun hsession => ?_, fun hsession => ?_⟩, fun s rest hsched => step_of_event hsched,
    fun s => step_of_no_event, fun s nbits w i hsession hword => ?_⟩
  · exact (step_of_event hsched).trans (present_of_inSession (s := s.takeEvent rest) hsession)
  · exact (step_of_event hsched).trans (present_of_no_session (s := s.takeEvent rest) hsession)
  · exact (step_withFetchWord hword).trans (present_of_inSession hsession)

end Sys2Proof.Machine
end
